-- ==== Sys2Proof/Word.lean ====
section
/-! DEFINITION. The two word types of the machine: the eight-bit byte of the bus and the registers, and the
sixteen-bit word of the pairs, `pc`, `sp` and addresses (spec/00_scope.md rule R4, last paragraph). -/

namespace Sys2Proof

/-- Eight bits: a register, a bus datum. -/
abbrev Byte := BitVec 8

/-- Sixteen bits: a register pair, `pc`, `sp`, a bus address. -/
abbrev Word := BitVec 16

end Sys2Proof
end

