-- ==== Sys2Proof/Config.lean ====
section
/-! DEFINITION. What is fixed for one machine: the parameters of spec/00_scope.md rule R4, the named constants
`OPEN_BUS` and `MAX_SPRITES`, and the one free value of the spec, the contents of RAM at reset. -/

namespace Sys2Proof

/-- Size code of the external cartridge RAM, `RAM_BYTES` (00_scope.md R4, R5). -/
inductive RamSize where
  | none | k2 | k8 | k32
deriving DecidableEq, Repr

/-- `RAM_BYTES`: 0, 0x0800, 0x2000 or 0x8000 (00_scope.md R4). -/
def RamSize.bytes : RamSize → Nat
  | .none => 0
  | .k2 => 0x0800
  | .k8 => 0x2000
  | .k32 => 0x8000

/-- `CART_VARIANT` with its RAM (00_scope.md R4: `RAM_BYTES` is 0 when the variant is `NoMBC`). -/
inductive CartKind where
  | noMbc
  | mbc1 (ram : RamSize)
deriving DecidableEq, Repr

/-- `RAM_BYTES` of a cartridge (00_scope.md R4). -/
def CartKind.ramBytes : CartKind → Nat
  | .noMbc => 0
  | .mbc1 ram => ram.bytes

/-- `N_ROM_BANKS`, a power of two from 2 to 128 (00_scope.md R4). -/
inductive RomSize where
  | b2 | b4 | b8 | b16 | b32 | b64 | b128
deriving DecidableEq, Repr

/-- The number of 16 KiB ROM banks. -/
def RomSize.banks : RomSize → Nat
  | .b2 => 2
  | .b4 => 4
  | .b8 => 8
  | .b16 => 16
  | .b32 => 32
  | .b64 => 64
  | .b128 => 128

/-- The parameters that are fixed at load and "never changed thereafter" (00_scope.md R4). The bytes of `ROM` and
`BOOT` are lists in `Memories`; whether `BOOT` is present at all stands here. -/
structure Params where
  cart : CartKind
  romSize : RomSize
  bootPresent : Bool
deriving DecidableEq, Repr

/-- The seven byte arrays of 10_state.md R27. -/
inductive Region where
  | rom | boot | vram | eram | wram | oam | hram
deriving DecidableEq, Repr

/-- How many bytes each array has (10_state.md R27). -/
def Params.sizeOf (p : Params) : Region → Nat
  | .rom => p.romSize.banks * 0x4000
  | .boot => 256
  | .vram => 0x2000
  | .eram => p.cart.ramBytes
  | .wram => 0x2000
  | .oam => 0xA0
  | .hram => 0x7F

/-- `OPEN_BUS` (00_scope.md R4). -/
def Config.openBus : Byte := 0xFF#8

/-- `MAX_SPRITES` (00_scope.md R4). -/
def Config.maxSprites : Nat := 10

/-- What a byte of an image that is not listed holds: images are lists of the bytes that differ from it, so every
image can be written down. DESIGN CHOICE (log entry 2), unsafe for `State.reset` only, whose image is empty. -/
def Config.imageFill : Byte := 0x00#8

/-- `INIT_RAM`: the contents of a byte of RAM that nothing has written since reset number `epoch`. FREE VALUE:
10_state.md R27 and 93_implementation_defined.md I5 give it the treatment `any value` (log entry 3), safe. -/
opaque Config.initRam (epoch : Nat) (r : Region) (off : Nat) : Byte

/-- The byte an unlisted cell of the array is KNOWN to hold: `imageFill` in the two images, none in RAM. -/
def Config.blank : Region → Option Byte
  | .rom => some Config.imageFill
  | .boot => some Config.imageFill
  | .vram => none
  | .eram => none
  | .wram => none
  | .oam => none
  | .hram => none

/-- What an unlisted cell reads as: the one definition of it (log entries 2 and 3). -/
def Config.unlisted (epoch : Nat) (r : Region) (off : Nat) : Byte :=
  (Config.blank r).getD (Config.initRam epoch r off)

end Sys2Proof
end

