-- ==== Sys2Proof/Machine/State.lean ====
section
/-! DEFINITION. The state of the whole machine, one aggregate (spec/10_state.md, opening), as plain data, and the state
after reset (spec/70_reset_and_hazards.md R400). INVENTORY.md lists every field with its rule and reset value. -/

namespace Sys2Proof.Machine

/-- "a 4-bit flag set {Zero, Subtract, HalfCarry, Carry} packed into one register" (10_state.md R12): bits 7, 6, 5, 4
of `F`. Bits 3:0 always read 0, so they are not held (log entry 6). -/
structure Flags where
  z : Bool
  n : Bool
  h : Bool
  c : Bool
deriving DecidableEq, Repr

/-- The record of the fatal fault `UnsupportedOpcode(pc0, op)` (10_state.md R20). -/
structure UnsupportedOpcode where
  pc0 : Word
  op : Byte
deriving DecidableEq, Repr

/-- CpuState (10_state.md R10 to R20). `F` is `flags`; `AF`, `BC`, `DE`, `HL` are views (R11). -/
structure CpuState where
  a : Byte
  flags : Flags
  b : Byte
  c : Byte
  d : Byte
  e : Byte
  h : Byte
  l : Byte
  pc : Word
  sp : Word
  ime : Bool
  imePending : Bool
  halted : Bool
  haltBug : Bool
  stopped : Bool
  fault : Option UnsupportedOpcode
deriving DecidableEq, Repr

/-- InterruptState (10_state.md R21): `IF` and `IE`. -/
structure InterruptState where
  pendingFlags : BitVec 5
  enableMask : Byte
deriving DecidableEq, Repr

/-- Timer controller (10_state.md R22). -/
structure TimerState where
  divCounter : BitVec 16
  tima : Byte
  tma : Byte
  tac : BitVec 3
  timaSub : Nat
deriving DecidableEq, Repr

/-- Serial port (10_state.md R23). `serialOut` is the host-visible record of every byte sent, oldest first. -/
structure SerialState where
  sb : Byte
  scStart : Bool
  scClock : Bool
  serialCount : Nat
  serialOut : List Byte
deriving DecidableEq, Repr

/-- The eight host inputs, true when pressed (10_state.md R24). -/
structure Buttons where
  right : Bool
  left : Bool
  up : Bool
  down : Bool
  a : Bool
  b : Bool
  select : Bool
  start : Bool
deriving DecidableEq, Repr

/-- Joypad (10_state.md R24): `P1.sel` and the button lines. -/
structure JoypadState where
  sel : BitVec 2
  buttons : Buttons
deriving DecidableEq, Repr

/-- CartridgeState (10_state.md R25). -/
structure CartState where
  romBank : BitVec 7
  ramBank : BitVec 2
  ramEnable : Bool
  bankMode : Bool
deriving DecidableEq, Repr

/-- The four PPU modes (10_state.md R28). -/
inductive Mode where
  | oamSearch | pixelTransfer | horizontalBlank | verticalBlank
deriving DecidableEq, Repr

/-- A two-bit shade index. -/
abbrev Shade := BitVec 2

/-- One scanline of the framebuffer. -/
abbrev Row := Vector Shade 160

/-- `fb`: 144 rows of 160 shades, `fb[y][x]` (10_state.md R28). -/
abbrev Framebuffer := Vector Row 144

/-- PpuState and the PPU registers (10_state.md R28, R29). `frames` is the host-visible list of published frames, oldest
first (61_ppu.md R366). -/
structure PpuState where
  mode : Mode
  ly : Byte
  dot : Nat
  fb : Framebuffer
  frames : List Framebuffer
  lcdc : Byte
  statEn : BitVec 4
  scy : Byte
  scx : Byte
  lyc : Byte
  dma : Byte
  bgp : Byte
  obp0 : Byte
  obp1 : Byte
  wy : Byte
  wx : Byte
deriving DecidableEq, Repr

/-- One byte array: the cells that are listed, by offset, in the canonical form of `Memory.wf`. -/
abbrev Memory := List Host.Cell

/-- The seven byte arrays of 10_state.md R27. `epoch` counts the resets; the free contents of RAM are applied to it
(log entry 4). -/
structure Memories where
  rom : Memory
  boot : Memory
  vram : Memory
  eram : Memory
  wram : Memory
  oam : Memory
  hram : Memory
  epoch : Nat
deriving DecidableEq, Repr

/-- The whole machine. `params` never changes; `cycles` is the value the last CPU step returned (log entry 5). -/
structure State where
  cpu : CpuState
  intr : InterruptState
  timer : TimerState
  serial : SerialState
  joypad : JoypadState
  cart : CartState
  bootOverlay : Bool
  mem : Memories
  ppu : PpuState
  params : Params
  cycles : Nat
deriving DecidableEq, Repr

/-- Why the machine stops. -/
inductive Fault where
  /-- Raised by `step` in a state whose `fault` is set: the machine has no further step (60_exceptions.md R303, R410;
  93_implementation_defined.md I2). Safe: the spec itself allows no step there. -/
  | unsupportedOpcode (pc0 : Word) (op : Byte)
deriving DecidableEq, Repr

/-- Why an instruction has no meaning. -/
inductive Refusal where
  /-- Raised by an arm of `exec` whose instruction has no meaning yet; no arm raises it in this package. Safe: the
  machine stops where the hardware goes on. -/
  | notModelled (mnemonic : String)
deriving DecidableEq, Repr

/-- What an instruction's meaning answers. -/
abbrev Out := Host.Outcome State Fault Refusal

/-! ## Reset -/

/-- Registers after reset with no bootstrap program: the state the console's own bootstrap leaves (70_reset_and_hazards.md
R400, direct profile). -/
def CpuState.direct : CpuState where
  a := 0x01#8
  flags := { z := true, n := false, h := true, c := true }
  b := 0x00#8
  c := 0x13#8
  d := 0x00#8
  e := 0xD8#8
  h := 0x01#8
  l := 0x4D#8
  pc := 0x0100#16
  sp := 0xFFFE#16
  ime := false
  imePending := false
  halted := false
  haltBug := false
  stopped := false
  fault := none

/-- Registers after reset with a bootstrap program (R400, boot profile). -/
def CpuState.boot : CpuState where
  a := 0#8
  flags := { z := false, n := false, h := false, c := false }
  b := 0#8
  c := 0#8
  d := 0#8
  e := 0#8
  h := 0#8
  l := 0#8
  pc := 0x0000#16
  sp := 0x0000#16
  ime := false
  imePending := false
  halted := false
  haltBug := false
  stopped := false
  fault := none

/-- `fb` with every shade 0. -/
def Framebuffer.blank : Framebuffer := Vector.replicate 144 (Vector.replicate 160 0#2)

/-- The PPU after reset, direct profile: the LCD is on and a new frame begins (10_state.md R28, R41 to R47). -/
def PpuState.direct : PpuState where
  mode := .oamSearch
  ly := 0#8
  dot := 0
  fb := Framebuffer.blank
  frames := []
  lcdc := 0x91#8
  statEn := 0#4
  scy := 0#8
  scx := 0#8
  lyc := 0#8
  dma := 0xFF#8
  bgp := 0xFC#8
  obp0 := 0xFF#8
  obp1 := 0xFF#8
  wy := 0#8
  wx := 0#8

/-- The PPU after reset, boot profile: the LCD is off (10_state.md R28, R41 to R47). -/
def PpuState.boot : PpuState where
  mode := .horizontalBlank
  ly := 0#8
  dot := 0
  fb := Framebuffer.blank
  frames := []
  lcdc := 0x00#8
  statEn := 0#4
  scy := 0#8
  scx := 0#8
  lyc := 0#8
  dma := 0xFF#8
  bgp := 0x00#8
  obp0 := 0x00#8
  obp1 := 0x00#8
  wy := 0#8
  wx := 0#8

/-- The aggregate after power-on or reset for given parameters and images (R400): the profile is chosen by the presence
of `BOOT`, and no byte of RAM is listed (`INIT_RAM`, log entry 3). -/
def State.powerOn (p : Params) (rom boot : Memory) (epoch : Nat) : State where
  cpu := if p.bootPresent then CpuState.boot else CpuState.direct
  intr := { pendingFlags := if p.bootPresent then 0b00000#5 else 0b00001#5, enableMask := 0x00#8 }
  timer :=
    { divCounter := if p.bootPresent then 0x0000#16 else 0xABCC#16, tima := 0#8, tma := 0#8, tac := 0#3, timaSub := 0 }
  serial := { sb := 0x00#8, scStart := false, scClock := false, serialCount := 0, serialOut := [] }
  joypad :=
    { sel := 0b11#2
      buttons :=
        { right := false, left := false, up := false, down := false
          a := false, b := false, select := false, start := false } }
  cart := { romBank := 1#7, ramBank := 0#2, ramEnable := false, bankMode := false }
  bootOverlay := p.bootPresent
  mem := { rom := rom, boot := boot, vram := [], eram := [], wram := [], oam := [], hram := [], epoch := epoch }
  ppu := if p.bootPresent then PpuState.boot else PpuState.direct
  params := p
  cycles := 0

/-- The parameters `State.reset` takes: no bank controller, two ROM banks, no bootstrap program. DESIGN CHOICE (log entry
1), unsafe: they are parameters of the spec; `State.powerOn` takes any. -/
def Params.plain : Params where
  cart := .noMbc
  romSize := .b2
  bootPresent := false

/-- The machine right after reset, for `Params.plain` and an image with nothing listed (log entries 1, 2, 4, 5, 12). -/
def State.reset : State := State.powerOn Params.plain [] [] 0

end Sys2Proof.Machine
end

