-- ==== Sys2Proof/Machine/Flags.lean ====
section
/-! DEFINITION. Results and flags of the arithmetic, logic, rotate and bit operations, as functions of values alone
(spec/41_alu8.md, 42_alu16.md, 43_rotate_shift_bit.md). Sums and comparisons are taken on unbounded naturals, as the
spec's pseudocode does (spec/00_scope.md R7). -/

namespace Sys2Proof.Machine

/-! ## The flag register -/

/-- `F` as a byte: Z N H C in bits 7 to 4, bits 3:0 zero (10_state.md R12). -/
def Flags.toByte (f : Flags) : Byte :=
  BitVec.ofBool f.z ++ BitVec.ofBool f.n ++ BitVec.ofBool f.h ++ BitVec.ofBool f.c ++ 0#4

/-- A write to `F` stores `v & 0xF0` (R12). -/
def Flags.ofByte (v : Byte) : Flags where
  z := v.getLsbD 7
  n := v.getLsbD 6
  h := v.getLsbD 5
  c := v.getLsbD 4

/-- A carry as a number. -/
def bit (c : Bool) : Nat := if c then 1 else 0

/-- `v[3:0]` as a number. -/
def nibble (v : Byte) : Nat := v.toNat % 16

/-! ## Eight-bit arithmetic and logic -/

/-- An eight-bit result with the flags after it. -/
structure Result8 where
  val : Byte
  flags : Flags
deriving DecidableEq, Repr

/-- Addition with a carry in (41_alu8.md R171, R172). -/
def add8 (a s : Byte) (c : Bool) : Result8 :=
  let r := a.toNat + s.toNat + bit c
  let val := BitVec.ofNat 8 r
  { val := val
    flags := { z := val == 0#8, n := false, h := decide (nibble a + nibble s + bit c > 0x0F), c := decide (r > 0xFF) } }

/-- Subtraction with a borrow in (R173, R174). -/
def sub8 (a s : Byte) (c : Bool) : Result8 :=
  let val := a - s - BitVec.ofNat 8 (bit c)
  { val := val
    flags :=
      { z := val == 0#8, n := true, h := decide (nibble a < nibble s + bit c)
        c := decide (a.toNat < s.toNat + bit c) } }

/-- A logic result: C cleared, N cleared, H as given (R175 to R177). -/
def logic8 (val : Byte) (h : Bool) : Result8 :=
  { val := val, flags := { z := val == 0#8, n := false, h := h, c := false } }

/-- The eight two-operand instructions (R171 to R178): the new `A` and the new flags. -/
def alu8 (op : AluOp) (a s : Byte) (f : Flags) : Result8 :=
  match op with
  | .add => add8 a s false
  | .adc => add8 a s f.c
  | .sub => sub8 a s false
  | .sbc => sub8 a s f.c
  | .and => logic8 (a &&& s) true
  | .xor => logic8 (a ^^^ s) false
  | .or => logic8 (a ||| s) false
  | .cp => { val := a, flags := (sub8 a s false).flags }

/-- Increment: C unchanged (R179, R180). -/
def inc8 (v : Byte) (f : Flags) : Result8 :=
  let r := v + 1#8
  { val := r, flags := { f with z := r == 0#8, n := false, h := decide (nibble v = 0xF) } }

/-- Decrement: C unchanged (R181, R182). -/
def dec8 (v : Byte) (f : Flags) : Result8 :=
  let r := v - 1#8
  { val := r, flags := { f with z := r == 0#8, n := true, h := decide (nibble v = 0x0) } }

/-- Decimal adjust (R183). Both tests of the addition branch look at `A` before the adjustment. -/
def daa8 (a : Byte) (f : Flags) : Result8 :=
  if f.n then
    let adj := (if f.h then 0x06#8 else 0#8) ||| (if f.c then 0x60#8 else 0#8)
    let r := a - adj
    { val := r, flags := { f with z := r == 0#8, h := false } }
  else
    let lowAdj : Bool := f.h || decide (nibble a > 0x9)
    let highAdj : Bool := f.c || decide (a.toNat > 0x99)
    let adj := (if lowAdj then 0x06#8 else 0#8) ||| (if highAdj then 0x60#8 else 0#8)
    let r := a + adj
    { val := r, flags := { f with z := r == 0#8, h := false, c := highAdj } }

/-- Complement of `A` (R184). -/
def cpl8 (a : Byte) (f : Flags) : Result8 := { val := ~~~a, flags := { f with n := true, h := true } }

/-- `SCF` (R185). -/
def scfFlags (f : Flags) : Flags := { f with c := true, n := false, h := false }

/-- `CCF` (R186). -/
def ccfFlags (f : Flags) : Flags := { f with c := !f.c, n := false, h := false }

/-! ## Sixteen-bit arithmetic -/

/-- Flags of `ADD HL,rr`: carries out of bits 11 and 15, Z unchanged (42_alu16.md R200). -/
def addHlFlags (hl s : Word) (f : Flags) : Flags :=
  { f with
    n := false
    h := decide (hl.toNat % 0x1000 + s.toNat % 0x1000 > 0x0FFF)
    c := decide (hl.toNat + s.toNat > 0xFFFF) }

/-- `sp + sext_8(b)` modulo 2^16 (40_loads.md R154, 42_alu16.md R203). -/
def addDisplacement (v : Word) (b : Byte) : Word := v + b.signExtend 16

/-- Flags of `ADD SP,e` and `LD HL,SP+e`: the carries of the unsigned addition of the raw byte to the low byte of `sp`
(R154, R203). -/
def addSpFlags (sp : Word) (b : Byte) : Flags where
  z := false
  n := false
  h := decide (sp.toNat % 16 + nibble b > 0x0F)
  c := decide (sp.toNat % 256 + b.toNat > 0xFF)

/-! ## Rotates, shifts and bits -/

/-- The rotated or shifted value and the bit that leaves it (43_rotate_shift_bit.md R215 to R222); `SWAP` clears C. -/
def rotValue (op : RotOp) (v : Byte) (c : Bool) : Byte × Bool :=
  match op with
  | .rlc => (v.extractLsb' 0 7 ++ BitVec.ofBool (v.getLsbD 7), v.getLsbD 7)
  | .rrc => (BitVec.ofBool (v.getLsbD 0) ++ v.extractLsb' 1 7, v.getLsbD 0)
  | .rl => (v.extractLsb' 0 7 ++ BitVec.ofBool c, v.getLsbD 7)
  | .rr => (BitVec.ofBool c ++ v.extractLsb' 1 7, v.getLsbD 0)
  | .sla => (v.extractLsb' 0 7 ++ 0#1, v.getLsbD 7)
  | .sra => (BitVec.ofBool (v.getLsbD 7) ++ v.extractLsb' 1 7, v.getLsbD 0)
  | .swap => (v.extractLsb' 0 4 ++ v.extractLsb' 4 4, false)
  | .srl => (0#1 ++ v.extractLsb' 1 7, v.getLsbD 0)

/-- The prefixed rotates and shifts: Z from the result, N and H cleared (R215 to R222). -/
def rot8 (op : RotOp) (v : Byte) (f : Flags) : Result8 :=
  let (r, out) := rotValue op v f.c
  { val := r, flags := { z := r == 0#8, n := false, h := false, c := out } }

/-- The accumulator rotates: as the prefixed ones, but Z always cleared (R210 to R213). -/
def rotA8 (op : RotOp) (a : Byte) (f : Flags) : Result8 :=
  let (r, out) := rotValue op a f.c
  { val := r, flags := { z := false, n := false, h := false, c := out } }

/-- Flags of `BIT b,r`: C unchanged (R223). -/
def bitFlags (b : Field3) (v : Byte) (f : Flags) : Flags := { f with z := !v.getLsbD b.toNat, n := false, h := true }

/-- `v & ~(1 << b)` (R224). -/
def res8 (b : Field3) (v : Byte) : Byte := v &&& ~~~(1#8 <<< b.toNat)

/-- `v | (1 << b)` (R225). -/
def set8 (b : Field3) (v : Byte) : Byte := v ||| (1#8 <<< b.toNat)

end Sys2Proof.Machine
end

