-- ==== Sys2Proof/WellFormed.lean ====
section
/-! DEFINITION. Which terms of `Instr` stand for an encoding. Every operand of every instruction takes every value of
its type (spec/30_encoding.md R101, R104), so the one check is that `illegal` carries one of the eleven unassigned
bytes (R113). -/

namespace Sys2Proof

/-- The eleven first-table bytes assigned to no instruction (30_encoding.md R113). -/
def unassignedBytes : List Byte :=
  [0xD3#8, 0xDB#8, 0xDD#8, 0xE3#8, 0xE4#8, 0xEB#8, 0xEC#8, 0xED#8, 0xF4#8, 0xFC#8, 0xFD#8]

/-- The term stands for an encoding. -/
def Instr.wellFormed (i : Instr) : Bool :=
  match i with
  | .illegal op => unassignedBytes.contains op
  | _ => true

/-- `Instr.wellFormed` as a proposition. -/
abbrev WellFormed (i : Instr) : Prop := i.wellFormed = true

end Sys2Proof
end

