-- ==== Sys2Proof/Decode.lean ====
section
/-! DEFINITION. Decoding and encoding. The decoder reads the fields of an opcode byte (spec/30_encoding.md R102) and
selects by `x`, `z`, `y`, `p`, `q` as R105 and R108 do; the encoder writes the bytes of opcode_table.json (the grids
R106 and R109), so that the round trip compares two tables of the spec. The maps from operand codes to constructors
stand first; the length and cost grids (R107, R110) stand last. -/

namespace Sys2Proof

/-! ## Constructors by their operands -/

/-- `LD r,r'` (40_loads.md R130), destination first. -/
def Instr.ldRegReg : Reg8 → Reg8 → Instr
  | .b, .b => .ld_B_B
  | .b, .c => .ld_B_C
  | .b, .d => .ld_B_D
  | .b, .e => .ld_B_E
  | .b, .h => .ld_B_H
  | .b, .l => .ld_B_L
  | .b, .a => .ld_B_A
  | .c, .b => .ld_C_B
  | .c, .c => .ld_C_C
  | .c, .d => .ld_C_D
  | .c, .e => .ld_C_E
  | .c, .h => .ld_C_H
  | .c, .l => .ld_C_L
  | .c, .a => .ld_C_A
  | .d, .b => .ld_D_B
  | .d, .c => .ld_D_C
  | .d, .d => .ld_D_D
  | .d, .e => .ld_D_E
  | .d, .h => .ld_D_H
  | .d, .l => .ld_D_L
  | .d, .a => .ld_D_A
  | .e, .b => .ld_E_B
  | .e, .c => .ld_E_C
  | .e, .d => .ld_E_D
  | .e, .e => .ld_E_E
  | .e, .h => .ld_E_H
  | .e, .l => .ld_E_L
  | .e, .a => .ld_E_A
  | .h, .b => .ld_H_B
  | .h, .c => .ld_H_C
  | .h, .d => .ld_H_D
  | .h, .e => .ld_H_E
  | .h, .h => .ld_H_H
  | .h, .l => .ld_H_L
  | .h, .a => .ld_H_A
  | .l, .b => .ld_L_B
  | .l, .c => .ld_L_C
  | .l, .d => .ld_L_D
  | .l, .e => .ld_L_E
  | .l, .h => .ld_L_H
  | .l, .l => .ld_L_L
  | .l, .a => .ld_L_A
  | .a, .b => .ld_A_B
  | .a, .c => .ld_A_C
  | .a, .d => .ld_A_D
  | .a, .e => .ld_A_E
  | .a, .h => .ld_A_H
  | .a, .l => .ld_A_L
  | .a, .a => .ld_A_A

/-- `LD r,n` (R131). -/
def Instr.ldRegImm : Reg8 → Byte → Instr
  | .b, n => .ld_B_n n
  | .c, n => .ld_C_n n
  | .d, n => .ld_D_n n
  | .e, n => .ld_E_n n
  | .h, n => .ld_H_n n
  | .l, n => .ld_L_n n
  | .a, n => .ld_A_n n

/-- `LD r,(HL)` (R132). -/
def Instr.ldRegMem : Reg8 → Instr
  | .b => .ld_B_atHL
  | .c => .ld_C_atHL
  | .d => .ld_D_atHL
  | .e => .ld_E_atHL
  | .h => .ld_H_atHL
  | .l => .ld_L_atHL
  | .a => .ld_A_atHL

/-- `LD (HL),r` (R133). -/
def Instr.ldMemReg : Reg8 → Instr
  | .b => .ld_atHL_B
  | .c => .ld_atHL_C
  | .d => .ld_atHL_D
  | .e => .ld_atHL_E
  | .h => .ld_atHL_H
  | .l => .ld_atHL_L
  | .a => .ld_atHL_A

/-- `LD rr,nn` (R149). -/
def Instr.ldPairImm : Pair → Word → Instr
  | .bc, nn => .ld_BC_nn nn
  | .de, nn => .ld_DE_nn nn
  | .hl, nn => .ld_HL_nn nn
  | .sp, nn => .ld_SP_nn nn

/-- `PUSH qq` (R152). -/
def Instr.push : StackPair → Instr
  | .bc => .push_BC
  | .de => .push_DE
  | .hl => .push_HL
  | .af => .push_AF

/-- `POP qq` (R153). -/
def Instr.pop : StackPair → Instr
  | .bc => .pop_BC
  | .de => .pop_DE
  | .hl => .pop_HL
  | .af => .pop_AF

/-- The eight two-operand instructions in their three forms (41_alu8.md R170). -/
def Instr.alu : AluOp → Src8 → Instr
  | .add, .reg .b => .add_A_B
  | .add, .reg .c => .add_A_C
  | .add, .reg .d => .add_A_D
  | .add, .reg .e => .add_A_E
  | .add, .reg .h => .add_A_H
  | .add, .reg .l => .add_A_L
  | .add, .reg .a => .add_A_A
  | .add, .atHL => .add_A_atHL
  | .add, .imm n => .add_A_n n
  | .adc, .reg .b => .adc_A_B
  | .adc, .reg .c => .adc_A_C
  | .adc, .reg .d => .adc_A_D
  | .adc, .reg .e => .adc_A_E
  | .adc, .reg .h => .adc_A_H
  | .adc, .reg .l => .adc_A_L
  | .adc, .reg .a => .adc_A_A
  | .adc, .atHL => .adc_A_atHL
  | .adc, .imm n => .adc_A_n n
  | .sub, .reg .b => .sub_B
  | .sub, .reg .c => .sub_C
  | .sub, .reg .d => .sub_D
  | .sub, .reg .e => .sub_E
  | .sub, .reg .h => .sub_H
  | .sub, .reg .l => .sub_L
  | .sub, .reg .a => .sub_A
  | .sub, .atHL => .sub_atHL
  | .sub, .imm n => .sub_n n
  | .sbc, .reg .b => .sbc_A_B
  | .sbc, .reg .c => .sbc_A_C
  | .sbc, .reg .d => .sbc_A_D
  | .sbc, .reg .e => .sbc_A_E
  | .sbc, .reg .h => .sbc_A_H
  | .sbc, .reg .l => .sbc_A_L
  | .sbc, .reg .a => .sbc_A_A
  | .sbc, .atHL => .sbc_A_atHL
  | .sbc, .imm n => .sbc_A_n n
  | .and, .reg .b => .and_B
  | .and, .reg .c => .and_C
  | .and, .reg .d => .and_D
  | .and, .reg .e => .and_E
  | .and, .reg .h => .and_H
  | .and, .reg .l => .and_L
  | .and, .reg .a => .and_A
  | .and, .atHL => .and_atHL
  | .and, .imm n => .and_n n
  | .xor, .reg .b => .xor_B
  | .xor, .reg .c => .xor_C
  | .xor, .reg .d => .xor_D
  | .xor, .reg .e => .xor_E
  | .xor, .reg .h => .xor_H
  | .xor, .reg .l => .xor_L
  | .xor, .reg .a => .xor_A
  | .xor, .atHL => .xor_atHL
  | .xor, .imm n => .xor_n n
  | .or, .reg .b => .or_B
  | .or, .reg .c => .or_C
  | .or, .reg .d => .or_D
  | .or, .reg .e => .or_E
  | .or, .reg .h => .or_H
  | .or, .reg .l => .or_L
  | .or, .reg .a => .or_A
  | .or, .atHL => .or_atHL
  | .or, .imm n => .or_n n
  | .cp, .reg .b => .cp_B
  | .cp, .reg .c => .cp_C
  | .cp, .reg .d => .cp_D
  | .cp, .reg .e => .cp_E
  | .cp, .reg .h => .cp_H
  | .cp, .reg .l => .cp_L
  | .cp, .reg .a => .cp_A
  | .cp, .atHL => .cp_atHL
  | .cp, .imm n => .cp_n n

/-- `INC r` and `INC (HL)` (41_alu8.md R179, R180). -/
def Instr.inc : Loc8 → Instr
  | .reg .b => .inc_B
  | .reg .c => .inc_C
  | .reg .d => .inc_D
  | .reg .e => .inc_E
  | .reg .h => .inc_H
  | .reg .l => .inc_L
  | .reg .a => .inc_A
  | .atHL => .inc_atHL

/-- `DEC r` and `DEC (HL)` (41_alu8.md R181, R182). -/
def Instr.dec : Loc8 → Instr
  | .reg .b => .dec_B
  | .reg .c => .dec_C
  | .reg .d => .dec_D
  | .reg .e => .dec_E
  | .reg .h => .dec_H
  | .reg .l => .dec_L
  | .reg .a => .dec_A
  | .atHL => .dec_atHL

/-- `ADD HL,rr` (42_alu16.md R200). -/
def Instr.addHl : Pair → Instr
  | .bc => .add_HL_BC
  | .de => .add_HL_DE
  | .hl => .add_HL_HL
  | .sp => .add_HL_SP

/-- `INC rr` (R201). -/
def Instr.incPair : Pair → Instr
  | .bc => .inc_BC
  | .de => .inc_DE
  | .hl => .inc_HL
  | .sp => .inc_SP

/-- `DEC rr` (R202). -/
def Instr.decPair : Pair → Instr
  | .bc => .dec_BC
  | .de => .dec_DE
  | .hl => .dec_HL
  | .sp => .dec_SP

/-- The prefixed rotates and shifts (43_rotate_shift_bit.md R215 to R222). -/
def Instr.rot : RotOp → Loc8 → Instr
  | .rlc, .reg .b => .rlc_B
  | .rlc, .reg .c => .rlc_C
  | .rlc, .reg .d => .rlc_D
  | .rlc, .reg .e => .rlc_E
  | .rlc, .reg .h => .rlc_H
  | .rlc, .reg .l => .rlc_L
  | .rlc, .reg .a => .rlc_A
  | .rlc, .atHL => .rlc_atHL
  | .rrc, .reg .b => .rrc_B
  | .rrc, .reg .c => .rrc_C
  | .rrc, .reg .d => .rrc_D
  | .rrc, .reg .e => .rrc_E
  | .rrc, .reg .h => .rrc_H
  | .rrc, .reg .l => .rrc_L
  | .rrc, .reg .a => .rrc_A
  | .rrc, .atHL => .rrc_atHL
  | .rl, .reg .b => .rl_B
  | .rl, .reg .c => .rl_C
  | .rl, .reg .d => .rl_D
  | .rl, .reg .e => .rl_E
  | .rl, .reg .h => .rl_H
  | .rl, .reg .l => .rl_L
  | .rl, .reg .a => .rl_A
  | .rl, .atHL => .rl_atHL
  | .rr, .reg .b => .rr_B
  | .rr, .reg .c => .rr_C
  | .rr, .reg .d => .rr_D
  | .rr, .reg .e => .rr_E
  | .rr, .reg .h => .rr_H
  | .rr, .reg .l => .rr_L
  | .rr, .reg .a => .rr_A
  | .rr, .atHL => .rr_atHL
  | .sla, .reg .b => .sla_B
  | .sla, .reg .c => .sla_C
  | .sla, .reg .d => .sla_D
  | .sla, .reg .e => .sla_E
  | .sla, .reg .h => .sla_H
  | .sla, .reg .l => .sla_L
  | .sla, .reg .a => .sla_A
  | .sla, .atHL => .sla_atHL
  | .sra, .reg .b => .sra_B
  | .sra, .reg .c => .sra_C
  | .sra, .reg .d => .sra_D
  | .sra, .reg .e => .sra_E
  | .sra, .reg .h => .sra_H
  | .sra, .reg .l => .sra_L
  | .sra, .reg .a => .sra_A
  | .sra, .atHL => .sra_atHL
  | .swap, .reg .b => .swap_B
  | .swap, .reg .c => .swap_C
  | .swap, .reg .d => .swap_D
  | .swap, .reg .e => .swap_E
  | .swap, .reg .h => .swap_H
  | .swap, .reg .l => .swap_L
  | .swap, .reg .a => .swap_A
  | .swap, .atHL => .swap_atHL
  | .srl, .reg .b => .srl_B
  | .srl, .reg .c => .srl_C
  | .srl, .reg .d => .srl_D
  | .srl, .reg .e => .srl_E
  | .srl, .reg .h => .srl_H
  | .srl, .reg .l => .srl_L
  | .srl, .reg .a => .srl_A
  | .srl, .atHL => .srl_atHL

/-- `BIT b,r` (R223). -/
def Instr.bit : Field3 → Loc8 → Instr
  | .o0, .reg .b => .bit_0_B
  | .o0, .reg .c => .bit_0_C
  | .o0, .reg .d => .bit_0_D
  | .o0, .reg .e => .bit_0_E
  | .o0, .reg .h => .bit_0_H
  | .o0, .reg .l => .bit_0_L
  | .o0, .reg .a => .bit_0_A
  | .o0, .atHL => .bit_0_atHL
  | .o1, .reg .b => .bit_1_B
  | .o1, .reg .c => .bit_1_C
  | .o1, .reg .d => .bit_1_D
  | .o1, .reg .e => .bit_1_E
  | .o1, .reg .h => .bit_1_H
  | .o1, .reg .l => .bit_1_L
  | .o1, .reg .a => .bit_1_A
  | .o1, .atHL => .bit_1_atHL
  | .o2, .reg .b => .bit_2_B
  | .o2, .reg .c => .bit_2_C
  | .o2, .reg .d => .bit_2_D
  | .o2, .reg .e => .bit_2_E
  | .o2, .reg .h => .bit_2_H
  | .o2, .reg .l => .bit_2_L
  | .o2, .reg .a => .bit_2_A
  | .o2, .atHL => .bit_2_atHL
  | .o3, .reg .b => .bit_3_B
  | .o3, .reg .c => .bit_3_C
  | .o3, .reg .d => .bit_3_D
  | .o3, .reg .e => .bit_3_E
  | .o3, .reg .h => .bit_3_H
  | .o3, .reg .l => .bit_3_L
  | .o3, .reg .a => .bit_3_A
  | .o3, .atHL => .bit_3_atHL
  | .o4, .reg .b => .bit_4_B
  | .o4, .reg .c => .bit_4_C
  | .o4, .reg .d => .bit_4_D
  | .o4, .reg .e => .bit_4_E
  | .o4, .reg .h => .bit_4_H
  | .o4, .reg .l => .bit_4_L
  | .o4, .reg .a => .bit_4_A
  | .o4, .atHL => .bit_4_atHL
  | .o5, .reg .b => .bit_5_B
  | .o5, .reg .c => .bit_5_C
  | .o5, .reg .d => .bit_5_D
  | .o5, .reg .e => .bit_5_E
  | .o5, .reg .h => .bit_5_H
  | .o5, .reg .l => .bit_5_L
  | .o5, .reg .a => .bit_5_A
  | .o5, .atHL => .bit_5_atHL
  | .o6, .reg .b => .bit_6_B
  | .o6, .reg .c => .bit_6_C
  | .o6, .reg .d => .bit_6_D
  | .o6, .reg .e => .bit_6_E
  | .o6, .reg .h => .bit_6_H
  | .o6, .reg .l => .bit_6_L
  | .o6, .reg .a => .bit_6_A
  | .o6, .atHL => .bit_6_atHL
  | .o7, .reg .b => .bit_7_B
  | .o7, .reg .c => .bit_7_C
  | .o7, .reg .d => .bit_7_D
  | .o7, .reg .e => .bit_7_E
  | .o7, .reg .h => .bit_7_H
  | .o7, .reg .l => .bit_7_L
  | .o7, .reg .a => .bit_7_A
  | .o7, .atHL => .bit_7_atHL

/-- `RES b,r` (R224). -/
def Instr.res : Field3 → Loc8 → Instr
  | .o0, .reg .b => .res_0_B
  | .o0, .reg .c => .res_0_C
  | .o0, .reg .d => .res_0_D
  | .o0, .reg .e => .res_0_E
  | .o0, .reg .h => .res_0_H
  | .o0, .reg .l => .res_0_L
  | .o0, .reg .a => .res_0_A
  | .o0, .atHL => .res_0_atHL
  | .o1, .reg .b => .res_1_B
  | .o1, .reg .c => .res_1_C
  | .o1, .reg .d => .res_1_D
  | .o1, .reg .e => .res_1_E
  | .o1, .reg .h => .res_1_H
  | .o1, .reg .l => .res_1_L
  | .o1, .reg .a => .res_1_A
  | .o1, .atHL => .res_1_atHL
  | .o2, .reg .b => .res_2_B
  | .o2, .reg .c => .res_2_C
  | .o2, .reg .d => .res_2_D
  | .o2, .reg .e => .res_2_E
  | .o2, .reg .h => .res_2_H
  | .o2, .reg .l => .res_2_L
  | .o2, .reg .a => .res_2_A
  | .o2, .atHL => .res_2_atHL
  | .o3, .reg .b => .res_3_B
  | .o3, .reg .c => .res_3_C
  | .o3, .reg .d => .res_3_D
  | .o3, .reg .e => .res_3_E
  | .o3, .reg .h => .res_3_H
  | .o3, .reg .l => .res_3_L
  | .o3, .reg .a => .res_3_A
  | .o3, .atHL => .res_3_atHL
  | .o4, .reg .b => .res_4_B
  | .o4, .reg .c => .res_4_C
  | .o4, .reg .d => .res_4_D
  | .o4, .reg .e => .res_4_E
  | .o4, .reg .h => .res_4_H
  | .o4, .reg .l => .res_4_L
  | .o4, .reg .a => .res_4_A
  | .o4, .atHL => .res_4_atHL
  | .o5, .reg .b => .res_5_B
  | .o5, .reg .c => .res_5_C
  | .o5, .reg .d => .res_5_D
  | .o5, .reg .e => .res_5_E
  | .o5, .reg .h => .res_5_H
  | .o5, .reg .l => .res_5_L
  | .o5, .reg .a => .res_5_A
  | .o5, .atHL => .res_5_atHL
  | .o6, .reg .b => .res_6_B
  | .o6, .reg .c => .res_6_C
  | .o6, .reg .d => .res_6_D
  | .o6, .reg .e => .res_6_E
  | .o6, .reg .h => .res_6_H
  | .o6, .reg .l => .res_6_L
  | .o6, .reg .a => .res_6_A
  | .o6, .atHL => .res_6_atHL
  | .o7, .reg .b => .res_7_B
  | .o7, .reg .c => .res_7_C
  | .o7, .reg .d => .res_7_D
  | .o7, .reg .e => .res_7_E
  | .o7, .reg .h => .res_7_H
  | .o7, .reg .l => .res_7_L
  | .o7, .reg .a => .res_7_A
  | .o7, .atHL => .res_7_atHL

/-- `SET b,r` (R225). -/
def Instr.set : Field3 → Loc8 → Instr
  | .o0, .reg .b => .set_0_B
  | .o0, .reg .c => .set_0_C
  | .o0, .reg .d => .set_0_D
  | .o0, .reg .e => .set_0_E
  | .o0, .reg .h => .set_0_H
  | .o0, .reg .l => .set_0_L
  | .o0, .reg .a => .set_0_A
  | .o0, .atHL => .set_0_atHL
  | .o1, .reg .b => .set_1_B
  | .o1, .reg .c => .set_1_C
  | .o1, .reg .d => .set_1_D
  | .o1, .reg .e => .set_1_E
  | .o1, .reg .h => .set_1_H
  | .o1, .reg .l => .set_1_L
  | .o1, .reg .a => .set_1_A
  | .o1, .atHL => .set_1_atHL
  | .o2, .reg .b => .set_2_B
  | .o2, .reg .c => .set_2_C
  | .o2, .reg .d => .set_2_D
  | .o2, .reg .e => .set_2_E
  | .o2, .reg .h => .set_2_H
  | .o2, .reg .l => .set_2_L
  | .o2, .reg .a => .set_2_A
  | .o2, .atHL => .set_2_atHL
  | .o3, .reg .b => .set_3_B
  | .o3, .reg .c => .set_3_C
  | .o3, .reg .d => .set_3_D
  | .o3, .reg .e => .set_3_E
  | .o3, .reg .h => .set_3_H
  | .o3, .reg .l => .set_3_L
  | .o3, .reg .a => .set_3_A
  | .o3, .atHL => .set_3_atHL
  | .o4, .reg .b => .set_4_B
  | .o4, .reg .c => .set_4_C
  | .o4, .reg .d => .set_4_D
  | .o4, .reg .e => .set_4_E
  | .o4, .reg .h => .set_4_H
  | .o4, .reg .l => .set_4_L
  | .o4, .reg .a => .set_4_A
  | .o4, .atHL => .set_4_atHL
  | .o5, .reg .b => .set_5_B
  | .o5, .reg .c => .set_5_C
  | .o5, .reg .d => .set_5_D
  | .o5, .reg .e => .set_5_E
  | .o5, .reg .h => .set_5_H
  | .o5, .reg .l => .set_5_L
  | .o5, .reg .a => .set_5_A
  | .o5, .atHL => .set_5_atHL
  | .o6, .reg .b => .set_6_B
  | .o6, .reg .c => .set_6_C
  | .o6, .reg .d => .set_6_D
  | .o6, .reg .e => .set_6_E
  | .o6, .reg .h => .set_6_H
  | .o6, .reg .l => .set_6_L
  | .o6, .reg .a => .set_6_A
  | .o6, .atHL => .set_6_atHL
  | .o7, .reg .b => .set_7_B
  | .o7, .reg .c => .set_7_C
  | .o7, .reg .d => .set_7_D
  | .o7, .reg .e => .set_7_E
  | .o7, .reg .h => .set_7_H
  | .o7, .reg .l => .set_7_L
  | .o7, .reg .a => .set_7_A
  | .o7, .atHL => .set_7_atHL

/-- `JP cc,nn` (44_control.md R242). -/
def Instr.jpCond : Cond → Word → Instr
  | .nz, nn => .jp_NZ_nn nn
  | .z, nn => .jp_Z_nn nn
  | .nc, nn => .jp_NC_nn nn
  | .c, nn => .jp_C_nn nn

/-- `JR cc,e` (R245). -/
def Instr.jrCond : Cond → Byte → Instr
  | .nz, e => .jr_NZ_e e
  | .z, e => .jr_Z_e e
  | .nc, e => .jr_NC_e e
  | .c, e => .jr_C_e e

/-- `CALL cc,nn` (R247). -/
def Instr.callCond : Cond → Word → Instr
  | .nz, nn => .call_NZ_nn nn
  | .z, nn => .call_Z_nn nn
  | .nc, nn => .call_NC_nn nn
  | .c, nn => .call_C_nn nn

/-- `RET cc` (R249). -/
def Instr.retCond : Cond → Instr
  | .nz => .ret_NZ
  | .z => .ret_Z
  | .nc => .ret_NC
  | .c => .ret_C

/-- `RST t`, `t` the target number (R253). -/
def Instr.rst : Field3 → Instr
  | .o0 => .rst_00
  | .o1 => .rst_08
  | .o2 => .rst_10
  | .o3 => .rst_18
  | .o4 => .rst_20
  | .o5 => .rst_28
  | .o6 => .rst_30
  | .o7 => .rst_38

/-! ## Fields and operand codes -/

/-- The three bits of `v` from bit `i` up. -/
def Field3.ofByte (v : Byte) (i : Nat) : Field3 :=
  match v.getLsbD (i + 2), v.getLsbD (i + 1), v.getLsbD i with
  | false, false, false => .o0
  | false, false, true => .o1
  | false, true, false => .o2
  | false, true, true => .o3
  | true, false, false => .o4
  | true, false, true => .o5
  | true, true, false => .o6
  | true, true, true => .o7

/-- Operand code of column `r` (R103). -/
def Loc8.ofField : Field3 → Loc8
  | .o0 => .reg .b
  | .o1 => .reg .c
  | .o2 => .reg .d
  | .o3 => .reg .e
  | .o4 => .reg .h
  | .o5 => .reg .l
  | .o6 => .atHL
  | .o7 => .reg .a

/-- Code of column `alu` (R103). -/
def AluOp.ofField : Field3 → AluOp
  | .o0 => .add
  | .o1 => .adc
  | .o2 => .sub
  | .o3 => .sbc
  | .o4 => .and
  | .o5 => .xor
  | .o6 => .or
  | .o7 => .cp

/-- Code of column `rot` (R103). -/
def RotOp.ofField : Field3 → RotOp
  | .o0 => .rlc
  | .o1 => .rrc
  | .o2 => .rl
  | .o3 => .rr
  | .o4 => .sla
  | .o5 => .sra
  | .o6 => .swap
  | .o7 => .srl

/-- Column `rp` by the field `p`, the high two bits of `y` (R102, R103). -/
def Pair.ofField : Field3 → Pair
  | .o0 | .o1 => .bc
  | .o2 | .o3 => .de
  | .o4 | .o5 => .hl
  | .o6 | .o7 => .sp

/-- Column `rp2` by the field `p` (R102, R103). -/
def StackPair.ofField : Field3 → StackPair
  | .o0 | .o1 => .bc
  | .o2 | .o3 => .de
  | .o4 | .o5 => .hl
  | .o6 | .o7 => .af

/-- The field `q`, the low bit of `y` (R102). -/
def Field3.q : Field3 → Bool
  | .o0 | .o2 | .o4 | .o6 => false
  | .o1 | .o3 | .o5 | .o7 => true

/-- The second operand of an arithmetic instruction from its code. -/
def Loc8.toSrc : Loc8 → Src8
  | .reg r => .reg r
  | .atHL => .atHL

/-! ## Operand codes (R103), as the bits an encoding holds -/

/-- A three-bit field as bits. -/
def Field3.code (y : Field3) : BitVec 3 := BitVec.ofNat 3 y.toNat

/-- Code of a register in column `r`. -/
def Reg8.code : Reg8 → BitVec 3
  | .b => 0#3
  | .c => 1#3
  | .d => 2#3
  | .e => 3#3
  | .h => 4#3
  | .l => 5#3
  | .a => 7#3

/-- Code of column `r`. -/
def Loc8.code : Loc8 → BitVec 3
  | .reg r => r.code
  | .atHL => 6#3

/-- Code of column `rp`. -/
def Pair.code : Pair → BitVec 2
  | .bc => 0#2
  | .de => 1#2
  | .hl => 2#2
  | .sp => 3#2

/-- Code of column `rp2`. -/
def StackPair.code : StackPair → BitVec 2
  | .bc => 0#2
  | .de => 1#2
  | .hl => 2#2
  | .af => 3#2

/-- Code of column `cc`. -/
def Cond.code : Cond → BitVec 2
  | .nz => 0#2
  | .z => 1#2
  | .nc => 2#2
  | .c => 3#2

/-- Code of column `alu`. -/
def AluOp.code : AluOp → BitVec 3
  | .add => 0#3
  | .adc => 1#3
  | .sub => 2#3
  | .sbc => 3#3
  | .and => 4#3
  | .xor => 5#3
  | .or => 6#3
  | .cp => 7#3

/-- Code of column `rot`. -/
def RotOp.code : RotOp → BitVec 3
  | .rlc => 0#3
  | .rrc => 1#3
  | .rl => 2#3
  | .rr => 3#3
  | .sla => 4#3
  | .sra => 5#3
  | .swap => 6#3
  | .srl => 7#3

/-! ## Decoding -/

/-- Quadrant `x = 0` of the first table (R105). -/
def decodeX0 (y z : Field3) (n : Byte) (nn : Word) : Instr :=
  match z with
  | .o0 =>
    match y with
    | .o0 => .nop
    | .o1 => .ld_atNN_SP nn
    | .o2 => .stop n
    | .o3 => .jr_e n
    | .o4 => .jrCond .nz n
    | .o5 => .jrCond .z n
    | .o6 => .jrCond .nc n
    | .o7 => .jrCond .c n
  | .o1 => if y.q then .addHl (Pair.ofField y) else .ldPairImm (Pair.ofField y) nn
  | .o2 =>
    match y with
    | .o0 => .ld_atBC_A
    | .o1 => .ld_A_atBC
    | .o2 => .ld_atDE_A
    | .o3 => .ld_A_atDE
    | .o4 => .ld_atHLi_A
    | .o5 => .ld_A_atHLi
    | .o6 => .ld_atHLd_A
    | .o7 => .ld_A_atHLd
  | .o3 => if y.q then .decPair (Pair.ofField y) else .incPair (Pair.ofField y)
  | .o4 => .inc (Loc8.ofField y)
  | .o5 => .dec (Loc8.ofField y)
  | .o6 =>
    match Loc8.ofField y with
    | .reg r => .ldRegImm r n
    | .atHL => .ld_atHL_n n
  | .o7 =>
    match y with
    | .o0 => .rlca
    | .o1 => .rrca
    | .o2 => .rla
    | .o3 => .rra
    | .o4 => .daa
    | .o5 => .cpl
    | .o6 => .scf
    | .o7 => .ccf

/-- Quadrant `x = 1`: the register and memory moves, and `HALT` where both operands would be memory (R105). -/
def decodeX1 (y z : Field3) : Instr :=
  match Loc8.ofField y, Loc8.ofField z with
  | .reg dst, .reg src => .ldRegReg dst src
  | .reg dst, .atHL => .ldRegMem dst
  | .atHL, .reg src => .ldMemReg src
  | .atHL, .atHL => .halt

/-- The second table (R108): `x` by its two bits, `y`, `z`. -/
def decodeSecond (op2 : Byte) : Instr :=
  let y := Field3.ofByte op2 3
  let loc := Loc8.ofField (Field3.ofByte op2 0)
  match op2.getLsbD 7, op2.getLsbD 6 with
  | false, false => .rot (RotOp.ofField y) loc
  | false, true => .bit y loc
  | true, false => .res y loc
  | true, true => .set y loc

/-- Quadrant `x = 3` (R105): `op` is the byte itself (kept by the unassigned bytes), `n` the next byte (the second
opcode byte after the prefix), `nn` the next two. -/
def decodeX3 (y z : Field3) (op n : Byte) (nn : Word) : Instr :=
  match z with
  | .o0 =>
    match y with
    | .o0 => .retCond .nz
    | .o1 => .retCond .z
    | .o2 => .retCond .nc
    | .o3 => .retCond .c
    | .o4 => .ldh_atN_A n
    | .o5 => .add_SP_e n
    | .o6 => .ldh_A_atN n
    | .o7 => .ld_HL_SPe n
  | .o1 =>
    match y with
    | .o0 | .o2 | .o4 | .o6 => .pop (StackPair.ofField y)
    | .o1 => .ret
    | .o3 => .reti
    | .o5 => .jp_HL
    | .o7 => .ld_SP_HL
  | .o2 =>
    match y with
    | .o0 => .jpCond .nz nn
    | .o1 => .jpCond .z nn
    | .o2 => .jpCond .nc nn
    | .o3 => .jpCond .c nn
    | .o4 => .ldh_atC_A
    | .o5 => .ld_atNN_A nn
    | .o6 => .ldh_A_atC
    | .o7 => .ld_A_atNN nn
  | .o3 =>
    match y with
    | .o0 => .jp_nn nn
    | .o1 => decodeSecond n
    | .o2 | .o3 | .o4 | .o5 => .illegal op
    | .o6 => .di
    | .o7 => .ei
  | .o4 =>
    match y with
    | .o0 => .callCond .nz nn
    | .o1 => .callCond .z nn
    | .o2 => .callCond .nc nn
    | .o3 => .callCond .c nn
    | .o4 | .o5 | .o6 | .o7 => .illegal op
  | .o5 =>
    match y with
    | .o0 | .o2 | .o4 | .o6 => .push (StackPair.ofField y)
    | .o1 => .call_nn nn
    | .o3 | .o5 | .o7 => .illegal op
  | .o6 => .alu (AluOp.ofField y) (.imm n)
  | .o7 => .rst y

/-- The instruction whose first byte is `b0` and whose next two bytes in memory are `b1` and `b2`. Total: every byte
sequence decodes to an instruction or to an unassigned byte (R116). -/
def decodeWindow (b0 b1 b2 : Byte) : Instr :=
  let y := Field3.ofByte b0 3
  let z := Field3.ofByte b0 0
  let nn : Word := b2 ++ b1
  match b0.getLsbD 7, b0.getLsbD 6 with
  | false, false => decodeX0 y z b1 nn
  | false, true => decodeX1 y z
  | true, false => .alu (AluOp.ofField y) (Loc8.ofField z).toSrc
  | true, true => decodeX3 y z b0 b1 nn

/-! ## Encoding -/

/-- The low byte of an immediate word: byte 1 of format `OP_NN` (R101). -/
def Word.lo (v : Word) : Byte := v.extractLsb' 0 8

/-- The high byte of an immediate word: byte 2 of format `OP_NN` (R101). -/
def Word.hi (v : Word) : Byte := v.extractLsb' 8 8

/-- The bytes of an instruction, the first at the lowest address (R101, opcode_table.json). -/
def encode : Instr → List Byte
  | .nop => [0x00#8]
  | .ld_BC_nn nn => [0x01#8, Word.lo nn, Word.hi nn]
  | .ld_atBC_A => [0x02#8]
  | .inc_BC => [0x03#8]
  | .inc_B => [0x04#8]
  | .dec_B => [0x05#8]
  | .ld_B_n n => [0x06#8, n]
  | .rlca => [0x07#8]
  | .ld_atNN_SP nn => [0x08#8, Word.lo nn, Word.hi nn]
  | .add_HL_BC => [0x09#8]
  | .ld_A_atBC => [0x0A#8]
  | .dec_BC => [0x0B#8]
  | .inc_C => [0x0C#8]
  | .dec_C => [0x0D#8]
  | .ld_C_n n => [0x0E#8, n]
  | .rrca => [0x0F#8]
  | .stop n => [0x10#8, n]
  | .ld_DE_nn nn => [0x11#8, Word.lo nn, Word.hi nn]
  | .ld_atDE_A => [0x12#8]
  | .inc_DE => [0x13#8]
  | .inc_D => [0x14#8]
  | .dec_D => [0x15#8]
  | .ld_D_n n => [0x16#8, n]
  | .rla => [0x17#8]
  | .jr_e e => [0x18#8, e]
  | .add_HL_DE => [0x19#8]
  | .ld_A_atDE => [0x1A#8]
  | .dec_DE => [0x1B#8]
  | .inc_E => [0x1C#8]
  | .dec_E => [0x1D#8]
  | .ld_E_n n => [0x1E#8, n]
  | .rra => [0x1F#8]
  | .jr_NZ_e e => [0x20#8, e]
  | .ld_HL_nn nn => [0x21#8, Word.lo nn, Word.hi nn]
  | .ld_atHLi_A => [0x22#8]
  | .inc_HL => [0x23#8]
  | .inc_H => [0x24#8]
  | .dec_H => [0x25#8]
  | .ld_H_n n => [0x26#8, n]
  | .daa => [0x27#8]
  | .jr_Z_e e => [0x28#8, e]
  | .add_HL_HL => [0x29#8]
  | .ld_A_atHLi => [0x2A#8]
  | .dec_HL => [0x2B#8]
  | .inc_L => [0x2C#8]
  | .dec_L => [0x2D#8]
  | .ld_L_n n => [0x2E#8, n]
  | .cpl => [0x2F#8]
  | .jr_NC_e e => [0x30#8, e]
  | .ld_SP_nn nn => [0x31#8, Word.lo nn, Word.hi nn]
  | .ld_atHLd_A => [0x32#8]
  | .inc_SP => [0x33#8]
  | .inc_atHL => [0x34#8]
  | .dec_atHL => [0x35#8]
  | .ld_atHL_n n => [0x36#8, n]
  | .scf => [0x37#8]
  | .jr_C_e e => [0x38#8, e]
  | .add_HL_SP => [0x39#8]
  | .ld_A_atHLd => [0x3A#8]
  | .dec_SP => [0x3B#8]
  | .inc_A => [0x3C#8]
  | .dec_A => [0x3D#8]
  | .ld_A_n n => [0x3E#8, n]
  | .ccf => [0x3F#8]
  | .ld_B_B => [0x40#8]
  | .ld_B_C => [0x41#8]
  | .ld_B_D => [0x42#8]
  | .ld_B_E => [0x43#8]
  | .ld_B_H => [0x44#8]
  | .ld_B_L => [0x45#8]
  | .ld_B_atHL => [0x46#8]
  | .ld_B_A => [0x47#8]
  | .ld_C_B => [0x48#8]
  | .ld_C_C => [0x49#8]
  | .ld_C_D => [0x4A#8]
  | .ld_C_E => [0x4B#8]
  | .ld_C_H => [0x4C#8]
  | .ld_C_L => [0x4D#8]
  | .ld_C_atHL => [0x4E#8]
  | .ld_C_A => [0x4F#8]
  | .ld_D_B => [0x50#8]
  | .ld_D_C => [0x51#8]
  | .ld_D_D => [0x52#8]
  | .ld_D_E => [0x53#8]
  | .ld_D_H => [0x54#8]
  | .ld_D_L => [0x55#8]
  | .ld_D_atHL => [0x56#8]
  | .ld_D_A => [0x57#8]
  | .ld_E_B => [0x58#8]
  | .ld_E_C => [0x59#8]
  | .ld_E_D => [0x5A#8]
  | .ld_E_E => [0x5B#8]
  | .ld_E_H => [0x5C#8]
  | .ld_E_L => [0x5D#8]
  | .ld_E_atHL => [0x5E#8]
  | .ld_E_A => [0x5F#8]
  | .ld_H_B => [0x60#8]
  | .ld_H_C => [0x61#8]
  | .ld_H_D => [0x62#8]
  | .ld_H_E => [0x63#8]
  | .ld_H_H => [0x64#8]
  | .ld_H_L => [0x65#8]
  | .ld_H_atHL => [0x66#8]
  | .ld_H_A => [0x67#8]
  | .ld_L_B => [0x68#8]
  | .ld_L_C => [0x69#8]
  | .ld_L_D => [0x6A#8]
  | .ld_L_E => [0x6B#8]
  | .ld_L_H => [0x6C#8]
  | .ld_L_L => [0x6D#8]
  | .ld_L_atHL => [0x6E#8]
  | .ld_L_A => [0x6F#8]
  | .ld_atHL_B => [0x70#8]
  | .ld_atHL_C => [0x71#8]
  | .ld_atHL_D => [0x72#8]
  | .ld_atHL_E => [0x73#8]
  | .ld_atHL_H => [0x74#8]
  | .ld_atHL_L => [0x75#8]
  | .halt => [0x76#8]
  | .ld_atHL_A => [0x77#8]
  | .ld_A_B => [0x78#8]
  | .ld_A_C => [0x79#8]
  | .ld_A_D => [0x7A#8]
  | .ld_A_E => [0x7B#8]
  | .ld_A_H => [0x7C#8]
  | .ld_A_L => [0x7D#8]
  | .ld_A_atHL => [0x7E#8]
  | .ld_A_A => [0x7F#8]
  | .add_A_B => [0x80#8]
  | .add_A_C => [0x81#8]
  | .add_A_D => [0x82#8]
  | .add_A_E => [0x83#8]
  | .add_A_H => [0x84#8]
  | .add_A_L => [0x85#8]
  | .add_A_atHL => [0x86#8]
  | .add_A_A => [0x87#8]
  | .adc_A_B => [0x88#8]
  | .adc_A_C => [0x89#8]
  | .adc_A_D => [0x8A#8]
  | .adc_A_E => [0x8B#8]
  | .adc_A_H => [0x8C#8]
  | .adc_A_L => [0x8D#8]
  | .adc_A_atHL => [0x8E#8]
  | .adc_A_A => [0x8F#8]
  | .sub_B => [0x90#8]
  | .sub_C => [0x91#8]
  | .sub_D => [0x92#8]
  | .sub_E => [0x93#8]
  | .sub_H => [0x94#8]
  | .sub_L => [0x95#8]
  | .sub_atHL => [0x96#8]
  | .sub_A => [0x97#8]
  | .sbc_A_B => [0x98#8]
  | .sbc_A_C => [0x99#8]
  | .sbc_A_D => [0x9A#8]
  | .sbc_A_E => [0x9B#8]
  | .sbc_A_H => [0x9C#8]
  | .sbc_A_L => [0x9D#8]
  | .sbc_A_atHL => [0x9E#8]
  | .sbc_A_A => [0x9F#8]
  | .and_B => [0xA0#8]
  | .and_C => [0xA1#8]
  | .and_D => [0xA2#8]
  | .and_E => [0xA3#8]
  | .and_H => [0xA4#8]
  | .and_L => [0xA5#8]
  | .and_atHL => [0xA6#8]
  | .and_A => [0xA7#8]
  | .xor_B => [0xA8#8]
  | .xor_C => [0xA9#8]
  | .xor_D => [0xAA#8]
  | .xor_E => [0xAB#8]
  | .xor_H => [0xAC#8]
  | .xor_L => [0xAD#8]
  | .xor_atHL => [0xAE#8]
  | .xor_A => [0xAF#8]
  | .or_B => [0xB0#8]
  | .or_C => [0xB1#8]
  | .or_D => [0xB2#8]
  | .or_E => [0xB3#8]
  | .or_H => [0xB4#8]
  | .or_L => [0xB5#8]
  | .or_atHL => [0xB6#8]
  | .or_A => [0xB7#8]
  | .cp_B => [0xB8#8]
  | .cp_C => [0xB9#8]
  | .cp_D => [0xBA#8]
  | .cp_E => [0xBB#8]
  | .cp_H => [0xBC#8]
  | .cp_L => [0xBD#8]
  | .cp_atHL => [0xBE#8]
  | .cp_A => [0xBF#8]
  | .ret_NZ => [0xC0#8]
  | .pop_BC => [0xC1#8]
  | .jp_NZ_nn nn => [0xC2#8, Word.lo nn, Word.hi nn]
  | .jp_nn nn => [0xC3#8, Word.lo nn, Word.hi nn]
  | .call_NZ_nn nn => [0xC4#8, Word.lo nn, Word.hi nn]
  | .push_BC => [0xC5#8]
  | .add_A_n n => [0xC6#8, n]
  | .rst_00 => [0xC7#8]
  | .ret_Z => [0xC8#8]
  | .ret => [0xC9#8]
  | .jp_Z_nn nn => [0xCA#8, Word.lo nn, Word.hi nn]
  | .call_Z_nn nn => [0xCC#8, Word.lo nn, Word.hi nn]
  | .call_nn nn => [0xCD#8, Word.lo nn, Word.hi nn]
  | .adc_A_n n => [0xCE#8, n]
  | .rst_08 => [0xCF#8]
  | .ret_NC => [0xD0#8]
  | .pop_DE => [0xD1#8]
  | .jp_NC_nn nn => [0xD2#8, Word.lo nn, Word.hi nn]
  | .illegal op => [op]
  | .call_NC_nn nn => [0xD4#8, Word.lo nn, Word.hi nn]
  | .push_DE => [0xD5#8]
  | .sub_n n => [0xD6#8, n]
  | .rst_10 => [0xD7#8]
  | .ret_C => [0xD8#8]
  | .reti => [0xD9#8]
  | .jp_C_nn nn => [0xDA#8, Word.lo nn, Word.hi nn]
  | .call_C_nn nn => [0xDC#8, Word.lo nn, Word.hi nn]
  | .sbc_A_n n => [0xDE#8, n]
  | .rst_18 => [0xDF#8]
  | .ldh_atN_A n => [0xE0#8, n]
  | .pop_HL => [0xE1#8]
  | .ldh_atC_A => [0xE2#8]
  | .push_HL => [0xE5#8]
  | .and_n n => [0xE6#8, n]
  | .rst_20 => [0xE7#8]
  | .add_SP_e e => [0xE8#8, e]
  | .jp_HL => [0xE9#8]
  | .ld_atNN_A nn => [0xEA#8, Word.lo nn, Word.hi nn]
  | .xor_n n => [0xEE#8, n]
  | .rst_28 => [0xEF#8]
  | .ldh_A_atN n => [0xF0#8, n]
  | .pop_AF => [0xF1#8]
  | .ldh_A_atC => [0xF2#8]
  | .di => [0xF3#8]
  | .push_AF => [0xF5#8]
  | .or_n n => [0xF6#8, n]
  | .rst_30 => [0xF7#8]
  | .ld_HL_SPe e => [0xF8#8, e]
  | .ld_SP_HL => [0xF9#8]
  | .ld_A_atNN nn => [0xFA#8, Word.lo nn, Word.hi nn]
  | .ei => [0xFB#8]
  | .cp_n n => [0xFE#8, n]
  | .rst_38 => [0xFF#8]
  | .rlc_B => [0xCB#8, 0x00#8]
  | .rlc_C => [0xCB#8, 0x01#8]
  | .rlc_D => [0xCB#8, 0x02#8]
  | .rlc_E => [0xCB#8, 0x03#8]
  | .rlc_H => [0xCB#8, 0x04#8]
  | .rlc_L => [0xCB#8, 0x05#8]
  | .rlc_atHL => [0xCB#8, 0x06#8]
  | .rlc_A => [0xCB#8, 0x07#8]
  | .rrc_B => [0xCB#8, 0x08#8]
  | .rrc_C => [0xCB#8, 0x09#8]
  | .rrc_D => [0xCB#8, 0x0A#8]
  | .rrc_E => [0xCB#8, 0x0B#8]
  | .rrc_H => [0xCB#8, 0x0C#8]
  | .rrc_L => [0xCB#8, 0x0D#8]
  | .rrc_atHL => [0xCB#8, 0x0E#8]
  | .rrc_A => [0xCB#8, 0x0F#8]
  | .rl_B => [0xCB#8, 0x10#8]
  | .rl_C => [0xCB#8, 0x11#8]
  | .rl_D => [0xCB#8, 0x12#8]
  | .rl_E => [0xCB#8, 0x13#8]
  | .rl_H => [0xCB#8, 0x14#8]
  | .rl_L => [0xCB#8, 0x15#8]
  | .rl_atHL => [0xCB#8, 0x16#8]
  | .rl_A => [0xCB#8, 0x17#8]
  | .rr_B => [0xCB#8, 0x18#8]
  | .rr_C => [0xCB#8, 0x19#8]
  | .rr_D => [0xCB#8, 0x1A#8]
  | .rr_E => [0xCB#8, 0x1B#8]
  | .rr_H => [0xCB#8, 0x1C#8]
  | .rr_L => [0xCB#8, 0x1D#8]
  | .rr_atHL => [0xCB#8, 0x1E#8]
  | .rr_A => [0xCB#8, 0x1F#8]
  | .sla_B => [0xCB#8, 0x20#8]
  | .sla_C => [0xCB#8, 0x21#8]
  | .sla_D => [0xCB#8, 0x22#8]
  | .sla_E => [0xCB#8, 0x23#8]
  | .sla_H => [0xCB#8, 0x24#8]
  | .sla_L => [0xCB#8, 0x25#8]
  | .sla_atHL => [0xCB#8, 0x26#8]
  | .sla_A => [0xCB#8, 0x27#8]
  | .sra_B => [0xCB#8, 0x28#8]
  | .sra_C => [0xCB#8, 0x29#8]
  | .sra_D => [0xCB#8, 0x2A#8]
  | .sra_E => [0xCB#8, 0x2B#8]
  | .sra_H => [0xCB#8, 0x2C#8]
  | .sra_L => [0xCB#8, 0x2D#8]
  | .sra_atHL => [0xCB#8, 0x2E#8]
  | .sra_A => [0xCB#8, 0x2F#8]
  | .swap_B => [0xCB#8, 0x30#8]
  | .swap_C => [0xCB#8, 0x31#8]
  | .swap_D => [0xCB#8, 0x32#8]
  | .swap_E => [0xCB#8, 0x33#8]
  | .swap_H => [0xCB#8, 0x34#8]
  | .swap_L => [0xCB#8, 0x35#8]
  | .swap_atHL => [0xCB#8, 0x36#8]
  | .swap_A => [0xCB#8, 0x37#8]
  | .srl_B => [0xCB#8, 0x38#8]
  | .srl_C => [0xCB#8, 0x39#8]
  | .srl_D => [0xCB#8, 0x3A#8]
  | .srl_E => [0xCB#8, 0x3B#8]
  | .srl_H => [0xCB#8, 0x3C#8]
  | .srl_L => [0xCB#8, 0x3D#8]
  | .srl_atHL => [0xCB#8, 0x3E#8]
  | .srl_A => [0xCB#8, 0x3F#8]
  | .bit_0_B => [0xCB#8, 0x40#8]
  | .bit_0_C => [0xCB#8, 0x41#8]
  | .bit_0_D => [0xCB#8, 0x42#8]
  | .bit_0_E => [0xCB#8, 0x43#8]
  | .bit_0_H => [0xCB#8, 0x44#8]
  | .bit_0_L => [0xCB#8, 0x45#8]
  | .bit_0_atHL => [0xCB#8, 0x46#8]
  | .bit_0_A => [0xCB#8, 0x47#8]
  | .bit_1_B => [0xCB#8, 0x48#8]
  | .bit_1_C => [0xCB#8, 0x49#8]
  | .bit_1_D => [0xCB#8, 0x4A#8]
  | .bit_1_E => [0xCB#8, 0x4B#8]
  | .bit_1_H => [0xCB#8, 0x4C#8]
  | .bit_1_L => [0xCB#8, 0x4D#8]
  | .bit_1_atHL => [0xCB#8, 0x4E#8]
  | .bit_1_A => [0xCB#8, 0x4F#8]
  | .bit_2_B => [0xCB#8, 0x50#8]
  | .bit_2_C => [0xCB#8, 0x51#8]
  | .bit_2_D => [0xCB#8, 0x52#8]
  | .bit_2_E => [0xCB#8, 0x53#8]
  | .bit_2_H => [0xCB#8, 0x54#8]
  | .bit_2_L => [0xCB#8, 0x55#8]
  | .bit_2_atHL => [0xCB#8, 0x56#8]
  | .bit_2_A => [0xCB#8, 0x57#8]
  | .bit_3_B => [0xCB#8, 0x58#8]
  | .bit_3_C => [0xCB#8, 0x59#8]
  | .bit_3_D => [0xCB#8, 0x5A#8]
  | .bit_3_E => [0xCB#8, 0x5B#8]
  | .bit_3_H => [0xCB#8, 0x5C#8]
  | .bit_3_L => [0xCB#8, 0x5D#8]
  | .bit_3_atHL => [0xCB#8, 0x5E#8]
  | .bit_3_A => [0xCB#8, 0x5F#8]
  | .bit_4_B => [0xCB#8, 0x60#8]
  | .bit_4_C => [0xCB#8, 0x61#8]
  | .bit_4_D => [0xCB#8, 0x62#8]
  | .bit_4_E => [0xCB#8, 0x63#8]
  | .bit_4_H => [0xCB#8, 0x64#8]
  | .bit_4_L => [0xCB#8, 0x65#8]
  | .bit_4_atHL => [0xCB#8, 0x66#8]
  | .bit_4_A => [0xCB#8, 0x67#8]
  | .bit_5_B => [0xCB#8, 0x68#8]
  | .bit_5_C => [0xCB#8, 0x69#8]
  | .bit_5_D => [0xCB#8, 0x6A#8]
  | .bit_5_E => [0xCB#8, 0x6B#8]
  | .bit_5_H => [0xCB#8, 0x6C#8]
  | .bit_5_L => [0xCB#8, 0x6D#8]
  | .bit_5_atHL => [0xCB#8, 0x6E#8]
  | .bit_5_A => [0xCB#8, 0x6F#8]
  | .bit_6_B => [0xCB#8, 0x70#8]
  | .bit_6_C => [0xCB#8, 0x71#8]
  | .bit_6_D => [0xCB#8, 0x72#8]
  | .bit_6_E => [0xCB#8, 0x73#8]
  | .bit_6_H => [0xCB#8, 0x74#8]
  | .bit_6_L => [0xCB#8, 0x75#8]
  | .bit_6_atHL => [0xCB#8, 0x76#8]
  | .bit_6_A => [0xCB#8, 0x77#8]
  | .bit_7_B => [0xCB#8, 0x78#8]
  | .bit_7_C => [0xCB#8, 0x79#8]
  | .bit_7_D => [0xCB#8, 0x7A#8]
  | .bit_7_E => [0xCB#8, 0x7B#8]
  | .bit_7_H => [0xCB#8, 0x7C#8]
  | .bit_7_L => [0xCB#8, 0x7D#8]
  | .bit_7_atHL => [0xCB#8, 0x7E#8]
  | .bit_7_A => [0xCB#8, 0x7F#8]
  | .res_0_B => [0xCB#8, 0x80#8]
  | .res_0_C => [0xCB#8, 0x81#8]
  | .res_0_D => [0xCB#8, 0x82#8]
  | .res_0_E => [0xCB#8, 0x83#8]
  | .res_0_H => [0xCB#8, 0x84#8]
  | .res_0_L => [0xCB#8, 0x85#8]
  | .res_0_atHL => [0xCB#8, 0x86#8]
  | .res_0_A => [0xCB#8, 0x87#8]
  | .res_1_B => [0xCB#8, 0x88#8]
  | .res_1_C => [0xCB#8, 0x89#8]
  | .res_1_D => [0xCB#8, 0x8A#8]
  | .res_1_E => [0xCB#8, 0x8B#8]
  | .res_1_H => [0xCB#8, 0x8C#8]
  | .res_1_L => [0xCB#8, 0x8D#8]
  | .res_1_atHL => [0xCB#8, 0x8E#8]
  | .res_1_A => [0xCB#8, 0x8F#8]
  | .res_2_B => [0xCB#8, 0x90#8]
  | .res_2_C => [0xCB#8, 0x91#8]
  | .res_2_D => [0xCB#8, 0x92#8]
  | .res_2_E => [0xCB#8, 0x93#8]
  | .res_2_H => [0xCB#8, 0x94#8]
  | .res_2_L => [0xCB#8, 0x95#8]
  | .res_2_atHL => [0xCB#8, 0x96#8]
  | .res_2_A => [0xCB#8, 0x97#8]
  | .res_3_B => [0xCB#8, 0x98#8]
  | .res_3_C => [0xCB#8, 0x99#8]
  | .res_3_D => [0xCB#8, 0x9A#8]
  | .res_3_E => [0xCB#8, 0x9B#8]
  | .res_3_H => [0xCB#8, 0x9C#8]
  | .res_3_L => [0xCB#8, 0x9D#8]
  | .res_3_atHL => [0xCB#8, 0x9E#8]
  | .res_3_A => [0xCB#8, 0x9F#8]
  | .res_4_B => [0xCB#8, 0xA0#8]
  | .res_4_C => [0xCB#8, 0xA1#8]
  | .res_4_D => [0xCB#8, 0xA2#8]
  | .res_4_E => [0xCB#8, 0xA3#8]
  | .res_4_H => [0xCB#8, 0xA4#8]
  | .res_4_L => [0xCB#8, 0xA5#8]
  | .res_4_atHL => [0xCB#8, 0xA6#8]
  | .res_4_A => [0xCB#8, 0xA7#8]
  | .res_5_B => [0xCB#8, 0xA8#8]
  | .res_5_C => [0xCB#8, 0xA9#8]
  | .res_5_D => [0xCB#8, 0xAA#8]
  | .res_5_E => [0xCB#8, 0xAB#8]
  | .res_5_H => [0xCB#8, 0xAC#8]
  | .res_5_L => [0xCB#8, 0xAD#8]
  | .res_5_atHL => [0xCB#8, 0xAE#8]
  | .res_5_A => [0xCB#8, 0xAF#8]
  | .res_6_B => [0xCB#8, 0xB0#8]
  | .res_6_C => [0xCB#8, 0xB1#8]
  | .res_6_D => [0xCB#8, 0xB2#8]
  | .res_6_E => [0xCB#8, 0xB3#8]
  | .res_6_H => [0xCB#8, 0xB4#8]
  | .res_6_L => [0xCB#8, 0xB5#8]
  | .res_6_atHL => [0xCB#8, 0xB6#8]
  | .res_6_A => [0xCB#8, 0xB7#8]
  | .res_7_B => [0xCB#8, 0xB8#8]
  | .res_7_C => [0xCB#8, 0xB9#8]
  | .res_7_D => [0xCB#8, 0xBA#8]
  | .res_7_E => [0xCB#8, 0xBB#8]
  | .res_7_H => [0xCB#8, 0xBC#8]
  | .res_7_L => [0xCB#8, 0xBD#8]
  | .res_7_atHL => [0xCB#8, 0xBE#8]
  | .res_7_A => [0xCB#8, 0xBF#8]
  | .set_0_B => [0xCB#8, 0xC0#8]
  | .set_0_C => [0xCB#8, 0xC1#8]
  | .set_0_D => [0xCB#8, 0xC2#8]
  | .set_0_E => [0xCB#8, 0xC3#8]
  | .set_0_H => [0xCB#8, 0xC4#8]
  | .set_0_L => [0xCB#8, 0xC5#8]
  | .set_0_atHL => [0xCB#8, 0xC6#8]
  | .set_0_A => [0xCB#8, 0xC7#8]
  | .set_1_B => [0xCB#8, 0xC8#8]
  | .set_1_C => [0xCB#8, 0xC9#8]
  | .set_1_D => [0xCB#8, 0xCA#8]
  | .set_1_E => [0xCB#8, 0xCB#8]
  | .set_1_H => [0xCB#8, 0xCC#8]
  | .set_1_L => [0xCB#8, 0xCD#8]
  | .set_1_atHL => [0xCB#8, 0xCE#8]
  | .set_1_A => [0xCB#8, 0xCF#8]
  | .set_2_B => [0xCB#8, 0xD0#8]
  | .set_2_C => [0xCB#8, 0xD1#8]
  | .set_2_D => [0xCB#8, 0xD2#8]
  | .set_2_E => [0xCB#8, 0xD3#8]
  | .set_2_H => [0xCB#8, 0xD4#8]
  | .set_2_L => [0xCB#8, 0xD5#8]
  | .set_2_atHL => [0xCB#8, 0xD6#8]
  | .set_2_A => [0xCB#8, 0xD7#8]
  | .set_3_B => [0xCB#8, 0xD8#8]
  | .set_3_C => [0xCB#8, 0xD9#8]
  | .set_3_D => [0xCB#8, 0xDA#8]
  | .set_3_E => [0xCB#8, 0xDB#8]
  | .set_3_H => [0xCB#8, 0xDC#8]
  | .set_3_L => [0xCB#8, 0xDD#8]
  | .set_3_atHL => [0xCB#8, 0xDE#8]
  | .set_3_A => [0xCB#8, 0xDF#8]
  | .set_4_B => [0xCB#8, 0xE0#8]
  | .set_4_C => [0xCB#8, 0xE1#8]
  | .set_4_D => [0xCB#8, 0xE2#8]
  | .set_4_E => [0xCB#8, 0xE3#8]
  | .set_4_H => [0xCB#8, 0xE4#8]
  | .set_4_L => [0xCB#8, 0xE5#8]
  | .set_4_atHL => [0xCB#8, 0xE6#8]
  | .set_4_A => [0xCB#8, 0xE7#8]
  | .set_5_B => [0xCB#8, 0xE8#8]
  | .set_5_C => [0xCB#8, 0xE9#8]
  | .set_5_D => [0xCB#8, 0xEA#8]
  | .set_5_E => [0xCB#8, 0xEB#8]
  | .set_5_H => [0xCB#8, 0xEC#8]
  | .set_5_L => [0xCB#8, 0xED#8]
  | .set_5_atHL => [0xCB#8, 0xEE#8]
  | .set_5_A => [0xCB#8, 0xEF#8]
  | .set_6_B => [0xCB#8, 0xF0#8]
  | .set_6_C => [0xCB#8, 0xF1#8]
  | .set_6_D => [0xCB#8, 0xF2#8]
  | .set_6_E => [0xCB#8, 0xF3#8]
  | .set_6_H => [0xCB#8, 0xF4#8]
  | .set_6_L => [0xCB#8, 0xF5#8]
  | .set_6_atHL => [0xCB#8, 0xF6#8]
  | .set_6_A => [0xCB#8, 0xF7#8]
  | .set_7_B => [0xCB#8, 0xF8#8]
  | .set_7_C => [0xCB#8, 0xF9#8]
  | .set_7_D => [0xCB#8, 0xFA#8]
  | .set_7_E => [0xCB#8, 0xFB#8]
  | .set_7_H => [0xCB#8, 0xFC#8]
  | .set_7_L => [0xCB#8, 0xFD#8]
  | .set_7_atHL => [0xCB#8, 0xFE#8]
  | .set_7_A => [0xCB#8, 0xFF#8]

/-- The length of an instruction in bytes. -/
def Instr.length (i : Instr) : Nat := (encode i).length

/-- Why a byte sequence is not decoded. -/
inductive DecodeError where
  /-- There is no byte to decode. Raised by `decode` only, never by a step, which always reads three bytes. -/
  | noBytes
  /-- The bytes end inside the instruction. Raised by `decode` only. -/
  | truncated
deriving DecidableEq, Repr

/-- Decode the instruction at the head of a byte sequence, with the bytes that follow it. -/
def decode : List Byte → Except DecodeError (Instr × List Byte)
  | [] => .error .noBytes
  | b0 :: rest =>
    let i := decodeWindow b0 (rest.getD 0 0) (rest.getD 1 0)
    if (b0 :: rest).length < i.length then .error .truncated
    else .ok (i, (b0 :: rest).drop i.length)

/-! ## The host's table words

opcode_table.json writes a second-table row with the prefix in the HIGH position of its number (30_encoding.md R119),
while operand bytes count on above the first byte. A sixteen-bit number with 0xCB in its high byte is therefore read as
a prefixed row, and every other number from its low byte up (log entry 11). -/

/-- The three bytes in memory order that the numbered word stands for; bits from `nbits` up are 0. -/
def tableBytes (nbits w : Nat) : Byte × Byte × Byte :=
  let v := w % 2 ^ nbits
  let b0 := BitVec.ofNat 8 v
  let b1 := BitVec.ofNat 8 (v / 256)
  let b2 := BitVec.ofNat 8 (v / 65536)
  if nbits = 16 ∧ b1 = 0xCB#8 then (0xCB#8, b0, 0#8) else (b0, b1, b2)

/-- What the decoder reads from a numbered word of the table. -/
def decodeTableWord (nbits w : Nat) : Option Instr :=
  let (b0, b1, b2) := tableBytes nbits w
  match decode [b0, b1, b2] with
  | .ok (i, _) => some i
  | .error _ => none

/-! ## Length and cost by opcode byte -/

/-- Length in bytes by first opcode byte (R107); 0xCB is the prefix, length 2; an unassigned byte has length 1 (R119). -/
def lengthGrid : List Nat :=
  [1, 3, 1, 1, 1, 1, 2, 1, 3, 1, 1, 1, 1, 1, 2, 1]
  ++ [2, 3, 1, 1, 1, 1, 2, 1, 2, 1, 1, 1, 1, 1, 2, 1]
  ++ [2, 3, 1, 1, 1, 1, 2, 1, 2, 1, 1, 1, 1, 1, 2, 1]
  ++ [2, 3, 1, 1, 1, 1, 2, 1, 2, 1, 1, 1, 1, 1, 2, 1]
  ++ [1, 1, 1, 1, 1, 1, 1, 1, 1, 1, 1, 1, 1, 1, 1, 1]
  ++ [1, 1, 1, 1, 1, 1, 1, 1, 1, 1, 1, 1, 1, 1, 1, 1]
  ++ [1, 1, 1, 1, 1, 1, 1, 1, 1, 1, 1, 1, 1, 1, 1, 1]
  ++ [1, 1, 1, 1, 1, 1, 1, 1, 1, 1, 1, 1, 1, 1, 1, 1]
  ++ [1, 1, 1, 1, 1, 1, 1, 1, 1, 1, 1, 1, 1, 1, 1, 1]
  ++ [1, 1, 1, 1, 1, 1, 1, 1, 1, 1, 1, 1, 1, 1, 1, 1]
  ++ [1, 1, 1, 1, 1, 1, 1, 1, 1, 1, 1, 1, 1, 1, 1, 1]
  ++ [1, 1, 1, 1, 1, 1, 1, 1, 1, 1, 1, 1, 1, 1, 1, 1]
  ++ [1, 1, 3, 3, 3, 1, 2, 1, 1, 1, 3, 2, 3, 3, 2, 1]
  ++ [1, 1, 3, 1, 3, 1, 2, 1, 1, 1, 3, 1, 3, 1, 2, 1]
  ++ [2, 1, 1, 1, 1, 1, 2, 1, 2, 1, 3, 1, 1, 1, 2, 1]
  ++ [2, 1, 1, 1, 1, 1, 2, 1, 2, 1, 3, 1, 1, 1, 2, 1]

/-- Cost in cycles by first opcode byte, the taken cost where there are two (R107); 0 for the unassigned bytes (45_system.md
R268) and for the prefix, whose cost is that of R110. -/
def costGrid : List Nat :=
  [4, 12, 8, 8, 4, 4, 8, 4, 20, 8, 8, 8, 4, 4, 8, 4]
  ++ [4, 12, 8, 8, 4, 4, 8, 4, 12, 8, 8, 8, 4, 4, 8, 4]
  ++ [12, 12, 8, 8, 4, 4, 8, 4, 12, 8, 8, 8, 4, 4, 8, 4]
  ++ [12, 12, 8, 8, 12, 12, 12, 4, 12, 8, 8, 8, 4, 4, 8, 4]
  ++ [4, 4, 4, 4, 4, 4, 8, 4, 4, 4, 4, 4, 4, 4, 8, 4]
  ++ [4, 4, 4, 4, 4, 4, 8, 4, 4, 4, 4, 4, 4, 4, 8, 4]
  ++ [4, 4, 4, 4, 4, 4, 8, 4, 4, 4, 4, 4, 4, 4, 8, 4]
  ++ [8, 8, 8, 8, 8, 8, 4, 8, 4, 4, 4, 4, 4, 4, 8, 4]
  ++ [4, 4, 4, 4, 4, 4, 8, 4, 4, 4, 4, 4, 4, 4, 8, 4]
  ++ [4, 4, 4, 4, 4, 4, 8, 4, 4, 4, 4, 4, 4, 4, 8, 4]
  ++ [4, 4, 4, 4, 4, 4, 8, 4, 4, 4, 4, 4, 4, 4, 8, 4]
  ++ [4, 4, 4, 4, 4, 4, 8, 4, 4, 4, 4, 4, 4, 4, 8, 4]
  ++ [20, 12, 16, 16, 24, 16, 8, 16, 20, 16, 16, 0, 24, 24, 8, 16]
  ++ [20, 12, 16, 0, 24, 16, 8, 16, 20, 16, 16, 0, 24, 0, 8, 16]
  ++ [12, 12, 8, 0, 0, 16, 8, 16, 16, 4, 16, 0, 0, 0, 8, 16]
  ++ [12, 12, 8, 4, 0, 16, 8, 16, 12, 8, 16, 4, 0, 0, 8, 16]

/-- Cost in cycles by first opcode byte when the condition is false (R107, R240); the cost of R107 where there is no
condition. -/
def costNotTakenGrid : List Nat :=
  [4, 12, 8, 8, 4, 4, 8, 4, 20, 8, 8, 8, 4, 4, 8, 4]
  ++ [4, 12, 8, 8, 4, 4, 8, 4, 12, 8, 8, 8, 4, 4, 8, 4]
  ++ [8, 12, 8, 8, 4, 4, 8, 4, 8, 8, 8, 8, 4, 4, 8, 4]
  ++ [8, 12, 8, 8, 12, 12, 12, 4, 8, 8, 8, 8, 4, 4, 8, 4]
  ++ [4, 4, 4, 4, 4, 4, 8, 4, 4, 4, 4, 4, 4, 4, 8, 4]
  ++ [4, 4, 4, 4, 4, 4, 8, 4, 4, 4, 4, 4, 4, 4, 8, 4]
  ++ [4, 4, 4, 4, 4, 4, 8, 4, 4, 4, 4, 4, 4, 4, 8, 4]
  ++ [8, 8, 8, 8, 8, 8, 4, 8, 4, 4, 4, 4, 4, 4, 8, 4]
  ++ [4, 4, 4, 4, 4, 4, 8, 4, 4, 4, 4, 4, 4, 4, 8, 4]
  ++ [4, 4, 4, 4, 4, 4, 8, 4, 4, 4, 4, 4, 4, 4, 8, 4]
  ++ [4, 4, 4, 4, 4, 4, 8, 4, 4, 4, 4, 4, 4, 4, 8, 4]
  ++ [4, 4, 4, 4, 4, 4, 8, 4, 4, 4, 4, 4, 4, 4, 8, 4]
  ++ [8, 12, 12, 16, 12, 16, 8, 16, 8, 16, 12, 0, 12, 24, 8, 16]
  ++ [8, 12, 12, 0, 12, 16, 8, 16, 8, 16, 12, 0, 12, 0, 8, 16]
  ++ [12, 12, 8, 0, 0, 16, 8, 16, 16, 4, 16, 0, 0, 0, 8, 16]
  ++ [12, 12, 8, 4, 0, 16, 8, 16, 12, 8, 16, 4, 0, 0, 8, 16]

/-- Cost in cycles of the second-table instruction with second byte `op2` (R110): 8 on a register; on `(HL)`, 12 for
`BIT` and 16 for the others. -/
def secondCost (op2 : Byte) : Nat :=
  if Field3.ofByte op2 0 = .o6 then
    if op2.getLsbD 7 = false ∧ op2.getLsbD 6 = true then 12 else 16
  else 8

/-- The cost of an instruction (R107, R110), by its bytes: `taken` chooses between the two figures of a conditional
instruction and does not matter for any other. -/
def Instr.tableCost (i : Instr) (taken : Bool) : Nat :=
  match encode i with
  | [] => 0
  | b0 :: rest =>
    if b0 = 0xCB#8 then secondCost (rest.getD 0 0)
    else (if taken then costGrid else costNotTakenGrid).getD b0.toNat 0

/-! ## Control-transfer instructions -/

/-- The condition a conditional instruction tests (44_control.md R240), none for any other instruction. -/
def Instr.condition : Instr → Option Cond
  | .jr_NZ_e _ | .jp_NZ_nn _ | .call_NZ_nn _ | .ret_NZ => some .nz
  | .jr_Z_e _ | .jp_Z_nn _ | .call_Z_nn _ | .ret_Z => some .z
  | .jr_NC_e _ | .jp_NC_nn _ | .call_NC_nn _ | .ret_NC => some .nc
  | .jr_C_e _ | .jp_C_nn _ | .call_C_nn _ | .ret_C => some .c
  | _ => none

/-- A jump, call, return or restart that is not conditional (44_control.md R241 to R253). -/
def Instr.alwaysTransfers : Instr → Bool
  | .jp_nn _ | .jp_HL | .jr_e _ | .call_nn _ | .ret | .reti => true
  | .rst_00 | .rst_08 | .rst_10 | .rst_18 | .rst_20 | .rst_28 | .rst_30 | .rst_38 => true
  | _ => false

end Sys2Proof
end

