-- ==== Sys2Proof/Machine/Memory.lean ====
section
/-! DEFINITION. The byte arrays of spec/10_state.md R27 as sorted lists of cells: reading, writing, and the canonical form
that makes equal contents equal data. -/

namespace Sys2Proof.Machine

/-! ## One array -/

/-- The byte listed at an offset. -/
def Memory.find : Memory → Nat → Option Byte
  | [], _ => none
  | (k, w) :: m, a => if k = a then some w else Memory.find m a

/-- List `v` at offset `a`, keeping offsets rising. -/
def Memory.put : Memory → Nat → Byte → Memory
  | [], a, v => [(a, v)]
  | (k, w) :: m, a, v =>
    if a < k then (a, v) :: (k, w) :: m
    else if a = k then (a, v) :: m
    else (k, w) :: Memory.put m a v

/-- Unlist offset `a`. -/
def Memory.forget : Memory → Nat → Memory
  | [], _ => []
  | (k, w) :: m, a => if k = a then m else (k, w) :: Memory.forget m a

/-- Offsets are strictly rising. -/
def Memory.rising : Memory → Bool
  | [] => true
  | c :: m => (m.head?.all fun c' => decide (c.1 < c'.1)) && Memory.rising m

/-- The canonical form of an array: offsets strictly rising, and no entry equal to what an unlisted cell is known to
hold (an unlisted cell of RAM holds no known value, so there the second half asks nothing). -/
def Memory.wf (r : Region) (m : Memory) : Bool :=
  m.rising && m.all fun c => decide (Config.blank r ≠ some c.2)

/-- Every listed offset lies inside an array of `size` bytes. -/
def Memory.within (size : Nat) (m : Memory) : Bool := m.all fun c => decide (c.1 < size)

/-! ## The seven arrays -/

/-- The list of one array. -/
def Memories.array (M : Memories) : Region → Memory
  | .rom => M.rom
  | .boot => M.boot
  | .vram => M.vram
  | .eram => M.eram
  | .wram => M.wram
  | .oam => M.oam
  | .hram => M.hram

/-- Replace the list of one array. -/
def Memories.setArray (M : Memories) (r : Region) (m : Memory) : Memories :=
  match r with
  | .rom => { M with rom := m }
  | .boot => { M with boot := m }
  | .vram => { M with vram := m }
  | .eram => { M with eram := m }
  | .wram => { M with wram := m }
  | .oam => { M with oam := m }
  | .hram => { M with hram := m }

/-- The byte of an array at an offset. -/
def Memories.read (M : Memories) (r : Region) (off : Nat) : Byte :=
  ((M.array r).find off).getD (Config.unlisted M.epoch r off)

/-- Store a byte: a value an unlisted cell is known to hold unlists the cell. -/
def Memories.write (M : Memories) (r : Region) (off : Nat) (v : Byte) : Memories :=
  M.setArray r
    (if Config.blank r = some v then (M.array r).forget off else (M.array r).put off v)

/-- All seven arrays are in canonical form. -/
def Memories.wf (M : Memories) : Bool :=
  M.rom.wf .rom && M.boot.wf .boot && M.vram.wf .vram && M.eram.wf .eram && M.wram.wf .wram && M.oam.wf .oam
    && M.hram.wf .hram

/-- Every listed cell of the seven arrays exists (10_state.md R27). -/
def Memories.within (M : Memories) (p : Params) : Bool :=
  M.rom.within (p.sizeOf .rom) && M.boot.within (p.sizeOf .boot) && M.vram.within (p.sizeOf .vram)
    && M.eram.within (p.sizeOf .eram) && M.wram.within (p.sizeOf .wram) && M.oam.within (p.sizeOf .oam)
    && M.hram.within (p.sizeOf .hram)

/-- Store a byte of the machine's memory. -/
def State.writeCell (s : State) (r : Region) (off : Nat) (v : Byte) : State :=
  { s with mem := s.mem.write r off v }

end Sys2Proof.Machine
end

