-- ==== Sys2Proof/Machine/Bus.lean ====
section
/-! DEFINITION. The memory bus (spec/20_memory.md) and the registers on it (spec/10_state.md R32 to R49): which owner
an address has, the access gate, the cartridge bank controller, `read` and `write`. -/

namespace Sys2Proof.Machine

/-! ## The registers on the bus -/

/-- The registers of the I/O block (10_state.md R32). -/
inductive IoReg where
  | p1 | sb | sc | div | tima | tma | tac | ifr | lcdc | stat | scy | scx | ly | lyc | dma | bgp | obp0 | obp1 | wy | wx
  | bootoff
deriving DecidableEq, Repr

/-- The address column of R32. -/
def IoReg.addr : IoReg → Word
  | .p1 => 0xFF00#16
  | .sb => 0xFF01#16
  | .sc => 0xFF02#16
  | .div => 0xFF04#16
  | .tima => 0xFF05#16
  | .tma => 0xFF06#16
  | .tac => 0xFF07#16
  | .ifr => 0xFF0F#16
  | .lcdc => 0xFF40#16
  | .stat => 0xFF41#16
  | .scy => 0xFF42#16
  | .scx => 0xFF43#16
  | .ly => 0xFF44#16
  | .lyc => 0xFF45#16
  | .dma => 0xFF46#16
  | .bgp => 0xFF47#16
  | .obp0 => 0xFF48#16
  | .obp1 => 0xFF49#16
  | .wy => 0xFF4A#16
  | .wx => 0xFF4B#16
  | .bootoff => 0xFF50#16

/-- The rows of R32 but `IE`, which is outside the block. -/
def IoReg.all : List IoReg :=
  [.p1, .sb, .sc, .div, .tima, .tma, .tac, .ifr, .lcdc, .stat, .scy, .scx, .ly, .lyc, .dma, .bgp, .obp0, .obp1, .wy, .wx,
   .bootoff]

/-- The register at an address of the block; none for an unmapped one (20_memory.md R58). -/
def IoReg.ofAddr (a : Word) : Option IoReg := IoReg.all.find? fun r => r.addr == a

/-- The code of a mode (10_state.md R28). -/
def Mode.code : Mode → BitVec 2
  | .oamSearch => 2#2
  | .pixelTransfer => 3#2
  | .horizontalBlank => 0#2
  | .verticalBlank => 1#2

/-- `LCDC[7]` (10_state.md R41). -/
def State.lcdOn (s : State) : Bool := s.ppu.lcdc.getLsbD 7

/-- The button of the direction group on line `i`, and of the action group (10_state.md R33). -/
def Buttons.direction (b : Buttons) : Nat → Bool
  | 0 => b.right
  | 1 => b.left
  | 2 => b.up
  | _ => b.down

/-- The button of the action group on line `i` (R33). -/
def Buttons.action (b : Buttons) : Nat → Bool
  | 0 => b.a
  | 1 => b.b
  | 2 => b.select
  | _ => b.start

/-- Bit `i` of the four joypad lines: 0 when a pressed button of a selected group is on it (R33). -/
def JoypadState.line (j : JoypadState) (i : Nat) : Bool :=
  !((!j.sel.getLsbD 0 && j.buttons.direction i) || (!j.sel.getLsbD 1 && j.buttons.action i))

/-- The four lines as bits 3:0. -/
def JoypadState.lines (j : JoypadState) : BitVec 4 :=
  BitVec.ofBool (j.line 3) ++ BitVec.ofBool (j.line 2) ++ BitVec.ofBool (j.line 1) ++ BitVec.ofBool (j.line 0)

/-- `LY` as the bus shows it: 0 while the LCD is off (R44). -/
def State.lyView (s : State) : Byte := if s.lcdOn then s.ppu.ly else 0#8

/-- `STAT` as the bus shows it (R42): bit 7 reads 1, the coincidence bit is computed at the read. -/
def State.statView (s : State) : Byte :=
  1#1 ++ s.ppu.statEn ++ BitVec.ofBool (s.ppu.ly == s.ppu.lyc) ++ (if s.lcdOn then s.ppu.mode.code else 0#2)

/-- `io_read`: the "R" value of a register (10_state.md R33 to R48). -/
def State.ioRead (s : State) : IoReg → Byte
  | .p1 => 0b11#2 ++ s.joypad.sel ++ s.joypad.lines
  | .sb => s.serial.sb
  | .sc => BitVec.ofBool s.serial.scStart ++ 0b111111#6 ++ BitVec.ofBool s.serial.scClock
  | .div => s.timer.divCounter.extractLsb' 8 8
  | .tima => s.timer.tima
  | .tma => s.timer.tma
  | .tac => 0b11111#5 ++ s.timer.tac
  | .ifr => 0b111#3 ++ s.intr.pendingFlags
  | .lcdc => s.ppu.lcdc
  | .stat => s.statView
  | .scy => s.ppu.scy
  | .scx => s.ppu.scx
  | .ly => s.lyView
  | .lyc => s.ppu.lyc
  | .dma => s.ppu.dma
  | .bgp => s.ppu.bgp
  | .obp0 => s.ppu.obp0
  | .obp1 => s.ppu.obp1
  | .wy => s.ppu.wy
  | .wx => s.ppu.wx
  | .bootoff => Config.openBus

/-! ## Cartridge -/

/-- Index into `ROM` of `rom_at(bank, off)` (20_memory.md R61). -/
def State.romAt (s : State) (bank off : Nat) : Nat := (bank % s.params.romSize.banks) * 0x4000 + off

/-- Index into `ROM` that a read of an address below 0x8000 reaches (`NoMBC` R62, `MBC1` R67). -/
def State.romIndex (s : State) (a : Nat) : Nat :=
  match s.params.cart with
  | .noMbc => s.romAt (a / 0x4000) (a % 0x4000)
  | .mbc1 _ => if a < 0x4000 then s.romAt 0 a else s.romAt s.cart.romBank.toNat (a - 0x4000)

/-- Index into `ERAM` that an access to 0xA000-0xBFFF reaches, none while there is no RAM to reach (R62, R68). -/
def State.ramIndex (s : State) (a : Nat) : Option Nat :=
  match s.params.cart with
  | .noMbc => none
  | .mbc1 ram =>
    if s.cart.ramEnable = false ∨ ram.bytes = 0 then none
    else some ((s.cart.ramBank.toNat * 0x2000 + (a - 0xA000)) % ram.bytes)

/-- `MBC1`, 0x0000-0x1FFF: RAM enable (R63). -/
def CartState.writeRamEnable (k : CartState) (v : Byte) : CartState :=
  { k with ramEnable := v.extractLsb' 0 4 == 0xA#4 }

/-- `MBC1`, 0x2000-0x3FFF: low five bits of the ROM bank, with 0 replaced by 1 (R64). -/
def CartState.writeRomBank (k : CartState) (v : Byte) : CartState :=
  let low := v.extractLsb' 0 5
  let low := if low = 0#5 then 1#5 else low
  { k with romBank := k.romBank.extractLsb' 5 2 ++ low }

/-- `MBC1`, 0x4000-0x5FFF: RAM bank, or upper bits of the ROM bank, by the banking mode (R65). -/
def CartState.writeUpper (k : CartState) (v : Byte) : CartState :=
  let two := v.extractLsb' 0 2
  if k.bankMode then { k with ramBank := two }
  else { k with romBank := two ++ k.romBank.extractLsb' 0 5 }

/-- `MBC1`, 0x6000-0x7FFF: banking mode (R66). -/
def CartState.writeMode (k : CartState) (v : Byte) : CartState := { k with bankMode := v.getLsbD 0 }

/-- `cart_write_control` for an address below 0x8000 (R62 to R66). -/
def State.cartWriteControl (s : State) (a : Nat) (v : Byte) : State :=
  match s.params.cart with
  | .noMbc => s
  | .mbc1 _ =>
    if a ≤ 0x1FFF then { s with cart := s.cart.writeRamEnable v }
    else if a ≤ 0x3FFF then { s with cart := s.cart.writeRomBank v }
    else if a ≤ 0x5FFF then { s with cart := s.cart.writeUpper v }
    else { s with cart := s.cart.writeMode v }

/-! ## Owners of addresses -/

/-- The owner of an address: a cell of an array, a register, or nothing. -/
inductive Place where
  | cell (r : Region) (off : Nat)
  | io (r : IoReg)
  | ie
  | unmapped
deriving DecidableEq, Repr

/-- The owner of an address for a read (20_memory.md R51, R52 `read_raw`). Above 0x7FFF it is the owner for a write
too (R53). -/
def State.place (s : State) (addr : Word) : Place :=
  let a := addr.toNat
  if a ≤ 0x00FF ∧ s.bootOverlay = true then .cell .boot a
  else if a ≤ 0x7FFF then .cell .rom (s.romIndex a)
  else if a ≤ 0x9FFF then .cell .vram (a - 0x8000)
  else if a ≤ 0xBFFF then
    match s.ramIndex a with
    | some i => .cell .eram i
    | none => .unmapped
  else if a ≤ 0xDFFF then .cell .wram (a - 0xC000)
  else if a ≤ 0xFDFF then .cell .wram (a - 0xE000)
  else if a ≤ 0xFE9F then .cell .oam (a - 0xFE00)
  else if a ≤ 0xFEFF then .unmapped
  else if a ≤ 0xFF7F then
    match IoReg.ofAddr addr with
    | some r => .io r
    | none => .unmapped
  else if a ≤ 0xFFFE then .cell .hram (a - 0xFF80)
  else .ie

/-- The byte an owner shows. -/
def State.readPlace (s : State) : Place → Byte
  | .cell r off => s.mem.read r off
  | .io r => s.ioRead r
  | .ie => s.intr.enableMask
  | .unmapped => Config.openBus

/-! ## The access gate -/

/-- `vram_denied()` (R70). -/
def State.vramDenied (s : State) : Bool := s.lcdOn && s.ppu.mode == .pixelTransfer

/-- `oam_denied()` (R70). -/
def State.oamDenied (s : State) : Bool := s.lcdOn && (s.ppu.mode == .oamSearch || s.ppu.mode == .pixelTransfer)

/-- The gate denies the CPU this address now (R52, R53, R70). -/
def State.denied (s : State) (addr : Word) : Bool :=
  let a := addr.toNat
  (decide (0x8000 ≤ a ∧ a ≤ 0x9FFF) && s.vramDenied) || (decide (0xFE00 ≤ a ∧ a ≤ 0xFE9F) && s.oamDenied)

/-! ## Read -/

/-- `read_raw` (R52). -/
def State.readRaw (s : State) (addr : Word) : Byte := s.readPlace (s.place addr)

/-- `read`, the bus read of the CPU: `MemRead(addr, 1)` (R52). -/
def State.read (s : State) (addr : Word) : Byte := if s.denied addr then Config.openBus else s.readRaw addr

/-- `MemRead(addr, 2)`: low byte first (00_scope.md R8). -/
def State.read16 (s : State) (addr : Word) : Word := s.read (addr + 1#16) ++ s.read addr

/-! ## Write -/

/-- Byte `i` of the sprite-memory copy from page `v` (20_memory.md R74). -/
def State.dmaByte (s : State) (v : Byte) (i : Nat) : State :=
  s.writeCell .oam i (s.readRaw ((v ++ 0#8 : Word) + BitVec.ofNat 16 i))

/-- The first `n` bytes of the copy, in order. -/
def State.dmaBytes (s : State) (v : Byte) : Nat → State
  | 0 => s
  | n + 1 => (s.dmaBytes v n).dmaByte v n

/-- A write to `SC`: store the two bits, then the transfer-start rule (10_state.md R35, 60_exceptions.md R320). -/
def SerialState.writeSc (p : SerialState) (v : Byte) : SerialState :=
  let q := { p with scStart := v.getLsbD 7, scClock := v.getLsbD 0 }
  if v.getLsbD 7 then
    if v.getLsbD 0 then { q with serialOut := q.serialOut ++ [q.sb], serialCount := 4096 }
    else { q with serialCount := 0 }
  else { q with serialCount := 0 }

/-- A write to `LCDC`: store, then the on/off rule (10_state.md R41, 61_ppu.md R352). -/
def PpuState.writeLcdc (p : PpuState) (v : Byte) : PpuState :=
  let q := { p with lcdc := v }
  match p.lcdc.getLsbD 7, v.getLsbD 7 with
  | true, false => { q with mode := .horizontalBlank, ly := 0#8, dot := 0 }
  | false, true => { q with mode := .oamSearch, ly := 0#8, dot := 0 }
  | _, _ => q

/-- `io_write`: the "W" action of a register (10_state.md R33 to R48). -/
def State.ioWrite (s : State) (r : IoReg) (v : Byte) : State :=
  match r with
  | .p1 => { s with joypad := { s.joypad with sel := v.extractLsb' 4 2 } }
  | .sb => { s with serial := { s.serial with sb := v } }
  | .sc => { s with serial := s.serial.writeSc v }
  | .div => { s with timer := { s.timer with divCounter := 0#16 } }
  | .tima => { s with timer := { s.timer with tima := v } }
  | .tma => { s with timer := { s.timer with tma := v } }
  | .tac => { s with timer := { s.timer with tac := v.extractLsb' 0 3 } }
  | .ifr => { s with intr := { s.intr with pendingFlags := v.extractLsb' 0 5 } }
  | .lcdc => { s with ppu := s.ppu.writeLcdc v }
  | .stat => { s with ppu := { s.ppu with statEn := v.extractLsb' 3 4 } }
  | .scy => { s with ppu := { s.ppu with scy := v } }
  | .scx => { s with ppu := { s.ppu with scx := v } }
  | .ly => s
  | .lyc => { s with ppu := { s.ppu with lyc := v } }
  | .dma => State.dmaBytes { s with ppu := { s.ppu with dma := v } } v 160
  | .bgp => { s with ppu := { s.ppu with bgp := v } }
  | .obp0 => { s with ppu := { s.ppu with obp0 := v } }
  | .obp1 => { s with ppu := { s.ppu with obp1 := v } }
  | .wy => { s with ppu := { s.ppu with wy := v } }
  | .wx => { s with ppu := { s.ppu with wx := v } }
  | .bootoff => if v.getLsbD 0 then { s with bootOverlay := false } else s

/-- Store into an owner. -/
def State.writePlace (s : State) (p : Place) (v : Byte) : State :=
  match p with
  | .cell r off => s.writeCell r off v
  | .io r => s.ioWrite r v
  | .ie => { s with intr := { s.intr with enableMask := v } }
  | .unmapped => s

/-- `write`, the bus write of the CPU: `MemWrite(addr, 1, v)` (R53). Below 0x8000 it is a cartridge control write, whatever
`boot_overlay` is. -/
def State.write (s : State) (addr : Word) (v : Byte) : State :=
  if addr.toNat ≤ 0x7FFF then s.cartWriteControl addr.toNat v
  else if s.denied addr then s
  else s.writePlace (s.place addr) v

/-- `MemWrite(addr, 2, v)`: low byte first (00_scope.md R8). -/
def State.write16 (s : State) (addr : Word) (v : Word) : State :=
  (s.write addr (v.extractLsb' 0 8)).write (addr + 1#16) (v.extractLsb' 8 8)

end Sys2Proof.Machine
end

