-- ==== Sys2Proof/Machine/Ops.lean ====
section
/-! DEFINITION. The shared operations of the CPU core: fetching, the stack, requesting an interrupt, taking one and
returning from one, taking the fatal fault (spec/00_scope.md R8, spec/60_exceptions.md R300 to R311). -/

namespace Sys2Proof.Machine

/-! ## Fetching -/

/-- The three bytes an instruction at `pc` is decoded from. Under `halt_bug` the opcode fetch does not advance `pc`, so
the first byte is read again as the next one (60_exceptions.md R301). Reads have no side effect (20_memory.md R52), so
reading more bytes than the instruction has changes nothing. -/
def State.fetchWindow (s : State) : Byte × Byte × Byte :=
  let pc1 := if s.cpu.haltBug then s.cpu.pc else s.cpu.pc + 1#16
  (s.read s.cpu.pc, s.read pc1, s.read (pc1 + 1#16))

/-- The instruction the next fetch reads (R300 step 4, R302). -/
def State.fetched (s : State) : Instr :=
  let (b0, b1, b2) := s.fetchWindow
  decodeWindow b0 b1 b2

/-- Consume the `length` bytes of the instruction and set the cost it reports: `pc` goes past the whole instruction, one
byte less under `halt_bug`, which is cleared (R301, R302; log entry 7). Every meaning begins so. -/
def State.consume (s : State) (length cost : Nat) : State :=
  { s with
    cpu :=
      { s.cpu with
        pc := s.cpu.pc + BitVec.ofNat 16 length - (if s.cpu.haltBug then 1#16 else 0#16)
        haltBug := false }
    cycles := cost }

/-! ## The stack -/

/-- `push16(v)`: high byte at `sp-1`, then low byte at `sp-2` (00_scope.md R8). -/
def State.push16 (s : State) (v : Word) : State :=
  let s1 := { s with cpu := { s.cpu with sp := s.cpu.sp - 1#16 } }
  let s2 := s1.write s1.cpu.sp (v.extractLsb' 8 8)
  let s3 := { s2 with cpu := { s2.cpu with sp := s2.cpu.sp - 1#16 } }
  s3.write s3.cpu.sp (v.extractLsb' 0 8)

/-- The word on top of the stack, low byte first (`pop16` of R8, its result). -/
def State.stackTop (s : State) : Word := s.read16 s.cpu.sp

/-- `pop16()`, its effect: two bytes leave the stack. -/
def State.popped (s : State) : State := { s with cpu := { s.cpu with sp := s.cpu.sp + 2#16 } }

/-- `pc <- target`. -/
def State.jump (s : State) (target : Word) : State := { s with cpu := { s.cpu with pc := target } }

/-- Call a subroutine: push the link, then jump (44_control.md R246, R251, R253). -/
def State.call (s : State) (target : Word) : State := (s.push16 s.cpu.pc).jump target

/-- Return from a subroutine (R248). -/
def State.ret (s : State) : State := s.popped.jump s.stackTop

/-! ## Interrupts -/

/-- The five sources in priority order (60_exceptions.md R304). -/
inductive IntSource where
  | vblank | lcdStatus | timer | serial | joypad
deriving DecidableEq, Repr

/-- Bit number in `IF` and `IE` (R304). -/
def IntSource.bit : IntSource → Nat
  | .vblank => 0
  | .lcdStatus => 1
  | .timer => 2
  | .serial => 3
  | .joypad => 4

/-- Fixed vector (R304, R306). -/
def IntSource.vector : IntSource → Word
  | .vblank => 0x0040#16
  | .lcdStatus => 0x0048#16
  | .timer => 0x0050#16
  | .serial => 0x0058#16
  | .joypad => 0x0060#16

/-- The sources, highest priority first (R307). -/
def IntSource.all : List IntSource := [.vblank, .lcdStatus, .timer, .serial, .joypad]

/-- The bit of a source, as a mask over the five bits. -/
def IntSource.mask (n : IntSource) : BitVec 5 := 1#5 <<< n.bit

/-- A source raises its interrupt: `IF.n <- 1` (R305). -/
def State.request (s : State) (n : IntSource) : State :=
  { s with intr := { s.intr with pendingFlags := s.intr.pendingFlags ||| n.mask } }

/-- `IF & IE & 0x1F` (R300). -/
def State.pendingEnabled (s : State) : BitVec 5 := s.intr.pendingFlags &&& s.intr.enableMask.extractLsb' 0 5

/-- The lowest-numbered bit set in `IF & IE & 0x1F` (R307). -/
def State.selected (s : State) : Option IntSource := IntSource.all.find? fun n => s.pendingEnabled.getLsbD n.bit

/-- Trap entry for a chosen source (R306): `halted` and `IME` cleared, the request cleared, `pc` pushed, `pc` at the
vector. -/
def State.takeInterrupt (s : State) (n : IntSource) : State :=
  let s1 :=
    { s with
      cpu := { s.cpu with halted := false, ime := false }
      intr := { s.intr with pendingFlags := s.intr.pendingFlags &&& ~~~n.mask } }
  s1.call n.vector

/-- Step 6 of `cpu_step` (R300): dispatch the selected source when `IME = 1`, at 20 cycles more. -/
def State.interruptCheck (s : State) : State :=
  if s.cpu.ime then
    match s.selected with
    | some n =>
      let t := s.takeInterrupt n
      { t with cycles := t.cycles + 20 }
    | none => s
  else s

/-- Return from an interrupt handler (44_control.md R250): pop `pc`, set `IME` at once. -/
def State.returnFromInterrupt (s : State) : State :=
  let t := s.ret
  { t with cpu := { t.cpu with ime := true } }

/-! ## The fatal fault -/

/-- `raise UnsupportedOpcode(pc0, op)` where `pc` is still at the byte (45_system.md R268, 60_exceptions.md R303): the fault
is recorded, `pc` stays at the byte, the step reports 0 cycles. `halt_bug` was cleared by the fetch (log entry 8). -/
def State.raiseUnsupported (s : State) (op : Byte) : State :=
  { s with
    cpu := { s.cpu with fault := some { pc0 := s.cpu.pc, op := op }, haltBug := false }
    cycles := 0 }

end Sys2Proof.Machine
end

