-- ==== Sys2Proof/Machine/Operands.lean ====
section
/-! DEFINITION. Reading and writing the operands of instructions: register codes, pairs, conditions, memory operands
(spec/00_scope.md R8, spec/30_encoding.md R103, spec/10_state.md R10 to R12). -/

namespace Sys2Proof.Machine

/-! ## Registers -/

/-- `x[i]` (00_scope.md R8). -/
def CpuState.reg (u : CpuState) : Reg8 → Byte
  | .b => u.b
  | .c => u.c
  | .d => u.d
  | .e => u.e
  | .h => u.h
  | .l => u.l
  | .a => u.a

/-- `x[i] <- v` (R8). -/
def CpuState.setReg (u : CpuState) (r : Reg8) (v : Byte) : CpuState :=
  match r with
  | .b => { u with b := v }
  | .c => { u with c := v }
  | .d => { u with d := v }
  | .e => { u with e := v }
  | .h => { u with h := v }
  | .l => { u with l := v }
  | .a => { u with a := v }

/-- `F` as a byte (10_state.md R12). -/
def CpuState.f (u : CpuState) : Byte := u.flags.toByte

/-- The view `AF` (10_state.md R11). -/
def CpuState.af (u : CpuState) : Word := u.a ++ u.f

/-- The view `BC`. -/
def CpuState.bc (u : CpuState) : Word := u.b ++ u.c

/-- The view `DE`. -/
def CpuState.de (u : CpuState) : Word := u.d ++ u.e

/-- The view `HL`. -/
def CpuState.hl (u : CpuState) : Word := u.h ++ u.l

/-- `HL <- v`. -/
def CpuState.setHl (u : CpuState) (v : Word) : CpuState :=
  { u with h := v.extractLsb' 8 8, l := v.extractLsb' 0 8 }

/-- `rp[p]` (00_scope.md R8). -/
def CpuState.pair (u : CpuState) : Pair → Word
  | .bc => u.bc
  | .de => u.de
  | .hl => u.hl
  | .sp => u.sp

/-- `rp[p] <- v`: the first-named register takes bits 15:8 (R8, 10_state.md R11). -/
def CpuState.setPair (u : CpuState) (p : Pair) (v : Word) : CpuState :=
  match p with
  | .bc => { u with b := v.extractLsb' 8 8, c := v.extractLsb' 0 8 }
  | .de => { u with d := v.extractLsb' 8 8, e := v.extractLsb' 0 8 }
  | .hl => u.setHl v
  | .sp => { u with sp := v }

/-- `rp2[p]` (R8). -/
def CpuState.stackPair (u : CpuState) : StackPair → Word
  | .bc => u.bc
  | .de => u.de
  | .hl => u.hl
  | .af => u.af

/-- `rp2[p] <- v`: a write to `AF` clears `F[3:0]` (R8, 10_state.md R12). -/
def CpuState.setStackPair (u : CpuState) (p : StackPair) (v : Word) : CpuState :=
  match p with
  | .bc => u.setPair .bc v
  | .de => u.setPair .de v
  | .hl => u.setPair .hl v
  | .af => { u with a := v.extractLsb' 8 8, flags := Flags.ofByte (v.extractLsb' 0 8) }

/-- `cond(c)` (44_control.md R240). -/
def Flags.test (f : Flags) : Cond → Bool
  | .nz => !f.z
  | .z => f.z
  | .nc => !f.c
  | .c => f.c

/-! ## Operands of instructions -/

/-- Change the registers. -/
def State.mapCpu (s : State) (f : CpuState → CpuState) : State := { s with cpu := f s.cpu }

/-- Write the flags. -/
def State.setFlags (s : State) (f : Flags) : State := { s with cpu := { s.cpu with flags := f } }

/-- Write `A` and the flags. -/
def State.setResult (s : State) (r : Result8) : State := { s with cpu := { s.cpu with a := r.val, flags := r.flags } }

/-- A register or the byte at `HL` (30_encoding.md R103). -/
def State.loc (s : State) : Loc8 → Byte
  | .reg r => s.cpu.reg r
  | .atHL => s.read s.cpu.hl

/-- Write a register or the byte at `HL`. -/
def State.setLoc (s : State) (x : Loc8) (v : Byte) : State :=
  match x with
  | .reg r => { s with cpu := s.cpu.setReg r v }
  | .atHL => s.write s.cpu.hl v

/-- The second operand of a two-operand instruction (41_alu8.md R170). -/
def State.src (s : State) : Src8 → Byte
  | .reg r => s.cpu.reg r
  | .atHL => s.read s.cpu.hl
  | .imm n => n

/-- The high-page address with low byte `n` (40_loads.md R141 to R144). -/
def highPage (n : Byte) : Word := 0xFF#8 ++ n

end Sys2Proof.Machine
end

