-- ==== Sys2Proof/Machine/Alu16.lean ====
section
/-! DEFINITION. Meanings of the sixteen-bit arithmetic instructions (spec/42_alu16.md R200 to R203) and of
`LD HL,SP+e` (spec/40_loads.md R154), which shares their flag rule. -/

namespace Sys2Proof.Machine

/-- `HL <- HL + rp[p]` (R200). -/
def addHlPair (p : Pair) (s : State) : Out :=
  let t := s.consume 1 8
  .next (t.mapCpu fun u => { u.setHl (u.hl + u.pair p) with flags := addHlFlags u.hl (u.pair p) u.flags })

/-- `rp[p] <- rp[p] + step` (R201, R202). -/
def stepPair (step : Word) (p : Pair) (s : State) : Out :=
  let t := s.consume 1 8
  .next (t.mapCpu fun u => u.setPair p (t.cpu.pair p + step))

/-! ## One meaning per constructor -/

/-- `INC BC` (R201). -/
def execInc_BC (s : State) : Out := stepPair 1#16 .bc s

/-- `ADD HL,BC` (R200). -/
def execAdd_HL_BC (s : State) : Out := addHlPair .bc s

/-- `DEC BC` (R202). -/
def execDec_BC (s : State) : Out := stepPair 0xFFFF#16 .bc s

/-- `INC DE` (R201). -/
def execInc_DE (s : State) : Out := stepPair 1#16 .de s

/-- `ADD HL,DE` (R200). -/
def execAdd_HL_DE (s : State) : Out := addHlPair .de s

/-- `DEC DE` (R202). -/
def execDec_DE (s : State) : Out := stepPair 0xFFFF#16 .de s

/-- `INC HL` (R201). -/
def execInc_HL (s : State) : Out := stepPair 1#16 .hl s

/-- `ADD HL,HL` (R200). -/
def execAdd_HL_HL (s : State) : Out := addHlPair .hl s

/-- `DEC HL` (R202). -/
def execDec_HL (s : State) : Out := stepPair 0xFFFF#16 .hl s

/-- `INC SP` (R201). -/
def execInc_SP (s : State) : Out := stepPair 1#16 .sp s

/-- `ADD HL,SP` (R200). -/
def execAdd_HL_SP (s : State) : Out := addHlPair .sp s

/-- `DEC SP` (R202). -/
def execDec_SP (s : State) : Out := stepPair 0xFFFF#16 .sp s

/-- `ADD SP,e` (R203). -/
def execAdd_SP_e (e : Byte) (s : State) : Out :=
  .next ((s.consume 2 16).mapCpu fun u =>
    { u with sp := addDisplacement u.sp e, flags := addSpFlags u.sp e })

/-- `LD HL,SP+e` (R154). -/
def execLd_HL_SPe (e : Byte) (s : State) : Out :=
  .next ((s.consume 2 12).mapCpu fun u =>
    { u.setHl (addDisplacement u.sp e) with flags := addSpFlags u.sp e })

end Sys2Proof.Machine
end

