-- ==== Sys2Proof/Machine/Alu8.lean ====
section
/-! DEFINITION. Meanings of the eight-bit arithmetic and logic instructions (spec/41_alu8.md R170 to R186): the shared
forms first, then one meaning per constructor. -/

namespace Sys2Proof.Machine

/-- Length of a two-operand instruction, by its form (R170). -/
def Src8.length : Src8 → Nat
  | .reg _ => 1
  | .atHL => 1
  | .imm _ => 2

/-- Cost of a two-operand instruction, by its form (R170). -/
def Src8.cost : Src8 → Nat
  | .reg _ => 4
  | .atHL => 8
  | .imm _ => 8

/-- `A` and the flags from `A`, the second operand and the flags (R171 to R178). -/
def aluA (op : AluOp) (x : Src8) (s : State) : Out :=
  let t := s.consume (Src8.length x) (Src8.cost x)
  .next (t.setResult (alu8 op t.cpu.a (t.src x) t.cpu.flags))

/-- Cost of `INC` and `DEC` (R179 to R182). -/
def incDecCost : Loc8 → Nat
  | .reg _ => 4
  | .atHL => 12

/-- Read a location, change it and the flags, write it back (R179 to R182). -/
def incDecLoc (f : Byte → Flags → Result8) (x : Loc8) (s : State) : Out :=
  let t := s.consume 1 (incDecCost x)
  let r := f (t.loc x) t.cpu.flags
  .next ((t.setLoc x r.val).setFlags r.flags)

/-- A change of `A` and the flags (R183, R184). -/
def adjustA (f : Byte → Flags → Result8) (s : State) : Out :=
  let t := s.consume 1 4
  .next (t.setResult (f t.cpu.a t.cpu.flags))

/-- A change of the flags alone (R185, R186). -/
def adjustFlags (f : Flags → Flags) (s : State) : Out :=
  let t := s.consume 1 4
  .next (t.setFlags (f t.cpu.flags))

/-! ## One meaning per constructor -/

/-- `INC B` (R179). -/
def execInc_B (s : State) : Out := incDecLoc inc8 (.reg .b) s

/-- `DEC B` (R181). -/
def execDec_B (s : State) : Out := incDecLoc dec8 (.reg .b) s

/-- `INC C` (R179). -/
def execInc_C (s : State) : Out := incDecLoc inc8 (.reg .c) s

/-- `DEC C` (R181). -/
def execDec_C (s : State) : Out := incDecLoc dec8 (.reg .c) s

/-- `INC D` (R179). -/
def execInc_D (s : State) : Out := incDecLoc inc8 (.reg .d) s

/-- `DEC D` (R181). -/
def execDec_D (s : State) : Out := incDecLoc dec8 (.reg .d) s

/-- `INC E` (R179). -/
def execInc_E (s : State) : Out := incDecLoc inc8 (.reg .e) s

/-- `DEC E` (R181). -/
def execDec_E (s : State) : Out := incDecLoc dec8 (.reg .e) s

/-- `INC H` (R179). -/
def execInc_H (s : State) : Out := incDecLoc inc8 (.reg .h) s

/-- `DEC H` (R181). -/
def execDec_H (s : State) : Out := incDecLoc dec8 (.reg .h) s

/-- `DAA` (R183). -/
def execDaa (s : State) : Out := adjustA daa8 s

/-- `INC L` (R179). -/
def execInc_L (s : State) : Out := incDecLoc inc8 (.reg .l) s

/-- `DEC L` (R181). -/
def execDec_L (s : State) : Out := incDecLoc dec8 (.reg .l) s

/-- `CPL` (R184). -/
def execCpl (s : State) : Out := adjustA cpl8 s

/-- `INC (HL)` (R180). -/
def execInc_atHL (s : State) : Out := incDecLoc inc8 .atHL s

/-- `DEC (HL)` (R182). -/
def execDec_atHL (s : State) : Out := incDecLoc dec8 .atHL s

/-- `SCF` (R185). -/
def execScf (s : State) : Out := adjustFlags scfFlags s

/-- `INC A` (R179). -/
def execInc_A (s : State) : Out := incDecLoc inc8 (.reg .a) s

/-- `DEC A` (R181). -/
def execDec_A (s : State) : Out := incDecLoc dec8 (.reg .a) s

/-- `CCF` (R186). -/
def execCcf (s : State) : Out := adjustFlags ccfFlags s

/-- `ADD A,B` (R171). -/
def execAdd_A_B (s : State) : Out := aluA .add (.reg .b) s

/-- `ADD A,C` (R171). -/
def execAdd_A_C (s : State) : Out := aluA .add (.reg .c) s

/-- `ADD A,D` (R171). -/
def execAdd_A_D (s : State) : Out := aluA .add (.reg .d) s

/-- `ADD A,E` (R171). -/
def execAdd_A_E (s : State) : Out := aluA .add (.reg .e) s

/-- `ADD A,H` (R171). -/
def execAdd_A_H (s : State) : Out := aluA .add (.reg .h) s

/-- `ADD A,L` (R171). -/
def execAdd_A_L (s : State) : Out := aluA .add (.reg .l) s

/-- `ADD A,(HL)` (R171). -/
def execAdd_A_atHL (s : State) : Out := aluA .add .atHL s

/-- `ADD A,A` (R171). -/
def execAdd_A_A (s : State) : Out := aluA .add (.reg .a) s

/-- `ADC A,B` (R172). -/
def execAdc_A_B (s : State) : Out := aluA .adc (.reg .b) s

/-- `ADC A,C` (R172). -/
def execAdc_A_C (s : State) : Out := aluA .adc (.reg .c) s

/-- `ADC A,D` (R172). -/
def execAdc_A_D (s : State) : Out := aluA .adc (.reg .d) s

/-- `ADC A,E` (R172). -/
def execAdc_A_E (s : State) : Out := aluA .adc (.reg .e) s

/-- `ADC A,H` (R172). -/
def execAdc_A_H (s : State) : Out := aluA .adc (.reg .h) s

/-- `ADC A,L` (R172). -/
def execAdc_A_L (s : State) : Out := aluA .adc (.reg .l) s

/-- `ADC A,(HL)` (R172). -/
def execAdc_A_atHL (s : State) : Out := aluA .adc .atHL s

/-- `ADC A,A` (R172). -/
def execAdc_A_A (s : State) : Out := aluA .adc (.reg .a) s

/-- `SUB B` (R173). -/
def execSub_B (s : State) : Out := aluA .sub (.reg .b) s

/-- `SUB C` (R173). -/
def execSub_C (s : State) : Out := aluA .sub (.reg .c) s

/-- `SUB D` (R173). -/
def execSub_D (s : State) : Out := aluA .sub (.reg .d) s

/-- `SUB E` (R173). -/
def execSub_E (s : State) : Out := aluA .sub (.reg .e) s

/-- `SUB H` (R173). -/
def execSub_H (s : State) : Out := aluA .sub (.reg .h) s

/-- `SUB L` (R173). -/
def execSub_L (s : State) : Out := aluA .sub (.reg .l) s

/-- `SUB (HL)` (R173). -/
def execSub_atHL (s : State) : Out := aluA .sub .atHL s

/-- `SUB A` (R173). -/
def execSub_A (s : State) : Out := aluA .sub (.reg .a) s

/-- `SBC A,B` (R174). -/
def execSbc_A_B (s : State) : Out := aluA .sbc (.reg .b) s

/-- `SBC A,C` (R174). -/
def execSbc_A_C (s : State) : Out := aluA .sbc (.reg .c) s

/-- `SBC A,D` (R174). -/
def execSbc_A_D (s : State) : Out := aluA .sbc (.reg .d) s

/-- `SBC A,E` (R174). -/
def execSbc_A_E (s : State) : Out := aluA .sbc (.reg .e) s

/-- `SBC A,H` (R174). -/
def execSbc_A_H (s : State) : Out := aluA .sbc (.reg .h) s

/-- `SBC A,L` (R174). -/
def execSbc_A_L (s : State) : Out := aluA .sbc (.reg .l) s

/-- `SBC A,(HL)` (R174). -/
def execSbc_A_atHL (s : State) : Out := aluA .sbc .atHL s

/-- `SBC A,A` (R174). -/
def execSbc_A_A (s : State) : Out := aluA .sbc (.reg .a) s

/-- `AND B` (R175). -/
def execAnd_B (s : State) : Out := aluA .and (.reg .b) s

/-- `AND C` (R175). -/
def execAnd_C (s : State) : Out := aluA .and (.reg .c) s

/-- `AND D` (R175). -/
def execAnd_D (s : State) : Out := aluA .and (.reg .d) s

/-- `AND E` (R175). -/
def execAnd_E (s : State) : Out := aluA .and (.reg .e) s

/-- `AND H` (R175). -/
def execAnd_H (s : State) : Out := aluA .and (.reg .h) s

/-- `AND L` (R175). -/
def execAnd_L (s : State) : Out := aluA .and (.reg .l) s

/-- `AND (HL)` (R175). -/
def execAnd_atHL (s : State) : Out := aluA .and .atHL s

/-- `AND A` (R175). -/
def execAnd_A (s : State) : Out := aluA .and (.reg .a) s

/-- `XOR B` (R176). -/
def execXor_B (s : State) : Out := aluA .xor (.reg .b) s

/-- `XOR C` (R176). -/
def execXor_C (s : State) : Out := aluA .xor (.reg .c) s

/-- `XOR D` (R176). -/
def execXor_D (s : State) : Out := aluA .xor (.reg .d) s

/-- `XOR E` (R176). -/
def execXor_E (s : State) : Out := aluA .xor (.reg .e) s

/-- `XOR H` (R176). -/
def execXor_H (s : State) : Out := aluA .xor (.reg .h) s

/-- `XOR L` (R176). -/
def execXor_L (s : State) : Out := aluA .xor (.reg .l) s

/-- `XOR (HL)` (R176). -/
def execXor_atHL (s : State) : Out := aluA .xor .atHL s

/-- `XOR A` (R176). -/
def execXor_A (s : State) : Out := aluA .xor (.reg .a) s

/-- `OR B` (R177). -/
def execOr_B (s : State) : Out := aluA .or (.reg .b) s

/-- `OR C` (R177). -/
def execOr_C (s : State) : Out := aluA .or (.reg .c) s

/-- `OR D` (R177). -/
def execOr_D (s : State) : Out := aluA .or (.reg .d) s

/-- `OR E` (R177). -/
def execOr_E (s : State) : Out := aluA .or (.reg .e) s

/-- `OR H` (R177). -/
def execOr_H (s : State) : Out := aluA .or (.reg .h) s

/-- `OR L` (R177). -/
def execOr_L (s : State) : Out := aluA .or (.reg .l) s

/-- `OR (HL)` (R177). -/
def execOr_atHL (s : State) : Out := aluA .or .atHL s

/-- `OR A` (R177). -/
def execOr_A (s : State) : Out := aluA .or (.reg .a) s

/-- `CP B` (R178). -/
def execCp_B (s : State) : Out := aluA .cp (.reg .b) s

/-- `CP C` (R178). -/
def execCp_C (s : State) : Out := aluA .cp (.reg .c) s

/-- `CP D` (R178). -/
def execCp_D (s : State) : Out := aluA .cp (.reg .d) s

/-- `CP E` (R178). -/
def execCp_E (s : State) : Out := aluA .cp (.reg .e) s

/-- `CP H` (R178). -/
def execCp_H (s : State) : Out := aluA .cp (.reg .h) s

/-- `CP L` (R178). -/
def execCp_L (s : State) : Out := aluA .cp (.reg .l) s

/-- `CP (HL)` (R178). -/
def execCp_atHL (s : State) : Out := aluA .cp .atHL s

/-- `CP A` (R178). -/
def execCp_A (s : State) : Out := aluA .cp (.reg .a) s

/-- `ADD A,n` (R171). -/
def execAdd_A_n (n : Byte) (s : State) : Out := aluA .add (.imm n) s

/-- `ADC A,n` (R172). -/
def execAdc_A_n (n : Byte) (s : State) : Out := aluA .adc (.imm n) s

/-- `SUB n` (R173). -/
def execSub_n (n : Byte) (s : State) : Out := aluA .sub (.imm n) s

/-- `SBC A,n` (R174). -/
def execSbc_A_n (n : Byte) (s : State) : Out := aluA .sbc (.imm n) s

/-- `AND n` (R175). -/
def execAnd_n (n : Byte) (s : State) : Out := aluA .and (.imm n) s

/-- `XOR n` (R176). -/
def execXor_n (n : Byte) (s : State) : Out := aluA .xor (.imm n) s

/-- `OR n` (R177). -/
def execOr_n (n : Byte) (s : State) : Out := aluA .or (.imm n) s

/-- `CP n` (R178). -/
def execCp_n (n : Byte) (s : State) : Out := aluA .cp (.imm n) s

end Sys2Proof.Machine
end

