-- ==== Sys2Proof/Machine/Control.lean ====
section
/-! DEFINITION. Meanings of the control-transfer instructions (spec/44_control.md R240 to R253): the shared forms first,
then one meaning per constructor. A conditional instruction consumes all its bytes before the test (R240). -/

namespace Sys2Proof.Machine

/-- Consume a conditional instruction, then do `f` if its condition holds; the cost is the larger figure then and the
smaller otherwise (R240). -/
def branch (cc : Cond) (length taken notTaken : Nat) (f : State → State) (s : State) : Out :=
  if s.cpu.flags.test cc then .next (f (s.consume length taken)) else .next (s.consume length notTaken)

/-- `pc <- pc + sext_8(e)`, `pc` already past the instruction (R244). -/
def State.jumpRelative (t : State) (e : Byte) : State := t.jump (addDisplacement t.cpu.pc e)

/-- `JP cc,nn` (R242). -/
def jumpIf (cc : Cond) (nn : Word) (s : State) : Out := branch cc 3 16 12 (fun t => t.jump nn) s

/-- `JR cc,e` (R245). -/
def jumpRelativeIf (cc : Cond) (e : Byte) (s : State) : Out := branch cc 2 12 8 (fun t => t.jumpRelative e) s

/-- `CALL cc,nn` (R247): nothing is pushed when not taken. -/
def callIf (cc : Cond) (nn : Word) (s : State) : Out := branch cc 3 24 12 (fun t => t.call nn) s

/-- `RET cc` (R249): nothing is read from the stack when not taken. -/
def retIf (cc : Cond) (s : State) : Out := branch cc 1 20 8 State.ret s

/-- `RST t`: call address `t * 8` (R253). -/
def restart (t : Field3) (s : State) : Out := .next ((s.consume 1 16).call (BitVec.ofNat 16 (t.toNat * 8)))

/-! ## One meaning per constructor -/

/-- `JR e` (R244). -/
def execJr_e (e : Byte) (s : State) : Out := .next ((s.consume 2 12).jumpRelative e)

/-- `JR NZ,e` (R245). -/
def execJr_NZ_e (e : Byte) (s : State) : Out := jumpRelativeIf .nz e s

/-- `JR Z,e` (R245). -/
def execJr_Z_e (e : Byte) (s : State) : Out := jumpRelativeIf .z e s

/-- `JR NC,e` (R245). -/
def execJr_NC_e (e : Byte) (s : State) : Out := jumpRelativeIf .nc e s

/-- `JR C,e` (R245). -/
def execJr_C_e (e : Byte) (s : State) : Out := jumpRelativeIf .c e s

/-- `RET NZ` (R249). -/
def execRet_NZ (s : State) : Out := retIf .nz s

/-- `JP NZ,nn` (R242). -/
def execJp_NZ_nn (nn : Word) (s : State) : Out := jumpIf .nz nn s

/-- `JP nn` (R241). -/
def execJp_nn (nn : Word) (s : State) : Out := .next ((s.consume 3 16).jump nn)

/-- `CALL NZ,nn` (R247). -/
def execCall_NZ_nn (nn : Word) (s : State) : Out := callIf .nz nn s

/-- `RST 00H` (R253). -/
def execRst_00 (s : State) : Out := restart .o0 s

/-- `RET Z` (R249). -/
def execRet_Z (s : State) : Out := retIf .z s

/-- `RET` (R248). -/
def execRet (s : State) : Out := .next (s.consume 1 16).ret

/-- `JP Z,nn` (R242). -/
def execJp_Z_nn (nn : Word) (s : State) : Out := jumpIf .z nn s

/-- `CALL Z,nn` (R247). -/
def execCall_Z_nn (nn : Word) (s : State) : Out := callIf .z nn s

/-- `CALL nn` (R246). -/
def execCall_nn (nn : Word) (s : State) : Out := .next ((s.consume 3 24).call nn)

/-- `RST 08H` (R253). -/
def execRst_08 (s : State) : Out := restart .o1 s

/-- `RET NC` (R249). -/
def execRet_NC (s : State) : Out := retIf .nc s

/-- `JP NC,nn` (R242). -/
def execJp_NC_nn (nn : Word) (s : State) : Out := jumpIf .nc nn s

/-- `CALL NC,nn` (R247). -/
def execCall_NC_nn (nn : Word) (s : State) : Out := callIf .nc nn s

/-- `RST 10H` (R253). -/
def execRst_10 (s : State) : Out := restart .o2 s

/-- `RET C` (R249). -/
def execRet_C (s : State) : Out := retIf .c s

/-- `RETI` (R250). -/
def execReti (s : State) : Out := .next (s.consume 1 16).returnFromInterrupt

/-- `JP C,nn` (R242). -/
def execJp_C_nn (nn : Word) (s : State) : Out := jumpIf .c nn s

/-- `CALL C,nn` (R247). -/
def execCall_C_nn (nn : Word) (s : State) : Out := callIf .c nn s

/-- `RST 18H` (R253). -/
def execRst_18 (s : State) : Out := restart .o3 s

/-- `RST 20H` (R253). -/
def execRst_20 (s : State) : Out := restart .o4 s

/-- `JP HL` (R243). -/
def execJp_HL (s : State) : Out := .next ((s.consume 1 4).jump s.cpu.hl)

/-- `RST 28H` (R253). -/
def execRst_28 (s : State) : Out := restart .o5 s

/-- `RST 30H` (R253). -/
def execRst_30 (s : State) : Out := restart .o6 s

/-- `RST 38H` (R253). -/
def execRst_38 (s : State) : Out := restart .o7 s

end Sys2Proof.Machine
end

