-- ==== Sys2Proof/Machine/Loads.lean ====
section
/-! DEFINITION. Meanings of the load, store and stack instructions (spec/40_loads.md R130 to R154): the shared forms
first, then one meaning per constructor. -/

namespace Sys2Proof.Machine

/-- `x[y] <- x[z]` (R130). -/
def ldRegReg (dst src : Reg8) (s : State) : Out :=
  let t := s.consume 1 4
  .next (t.mapCpu fun u => u.setReg dst (u.reg src))

/-- `x[y] <- n` (R131). -/
def ldRegImm (dst : Reg8) (n : Byte) (s : State) : Out := .next ((s.consume 2 8).mapCpu fun u => u.setReg dst n)

/-- `x[y] <- MemRead(addr, 1)`, the address in a pair (R132, R135, R136): the read is made before the write. -/
def ldRegAt (dst : Reg8) (addr : Pair) (s : State) : Out :=
  let t := s.consume 1 8
  .next (t.mapCpu fun u => u.setReg dst (t.read (t.cpu.pair addr)))

/-- `MemWrite(addr, 1, x[z])`, the address in a pair (R133, R137, R138). -/
def ldAtReg (addr : Pair) (src : Reg8) (s : State) : Out :=
  let t := s.consume 1 8
  .next (t.write (t.cpu.pair addr) (t.cpu.reg src))

/-- `MemWrite(HL, 1, n)` (R134). -/
def ldAtHlImm (n : Byte) (s : State) : Out :=
  let t := s.consume 2 12
  .next (t.write t.cpu.hl n)

/-- `A <- MemRead(addr, 1)` for an address the instruction computes, with its length and cost (R139, R141, R143). -/
def ldAFrom (length cost : Nat) (addr : Word) (s : State) : Out :=
  let t := s.consume length cost
  .next (t.mapCpu fun u => { u with a := t.read addr })

/-- `MemWrite(addr, 1, A)` for an address the instruction computes (R140, R142, R144). -/
def ldAtA (length cost : Nat) (addr : Word) (s : State) : Out :=
  let t := s.consume length cost
  .next (t.write addr t.cpu.a)

/-- `A <- MemRead(HL, 1); HL <- HL + step` (R145, R147). -/
def ldAHlStep (step : Word) (s : State) : Out :=
  let t := s.consume 1 8
  .next (t.mapCpu fun u => { u.setHl (u.hl + step) with a := t.read t.cpu.hl })

/-- `MemWrite(HL, 1, A); HL <- HL + step` (R146, R148). -/
def ldHlStepA (step : Word) (s : State) : Out :=
  let t := s.consume 1 8
  .next ((t.write t.cpu.hl t.cpu.a).mapCpu fun u => u.setHl (u.hl + step))

/-- `rp[p] <- nn` (R149). -/
def ldPairImm (p : Pair) (nn : Word) (s : State) : Out := .next ((s.consume 3 12).mapCpu fun u => u.setPair p nn)

/-- `push16(rp2[p])` (R152). -/
def pushPair (p : StackPair) (s : State) : Out :=
  let t := s.consume 1 16
  .next (t.push16 (t.cpu.stackPair p))

/-- `rp2[p] <- pop16()` (R153). -/
def popPair (p : StackPair) (s : State) : Out :=
  let t := s.consume 1 12
  .next (t.popped.mapCpu fun u => u.setStackPair p t.stackTop)

/-! ## One meaning per constructor -/

/-- `LD BC,nn` (R149). -/
def execLd_BC_nn (nn : Word) (s : State) : Out := ldPairImm .bc nn s

/-- `LD (BC),A` (R137). -/
def execLd_atBC_A (s : State) : Out := ldAtReg .bc .a s

/-- `LD B,n` (R131). -/
def execLd_B_n (n : Byte) (s : State) : Out := ldRegImm .b n s

/-- `LD (nn),SP` (R150). -/
def execLd_atNN_SP (nn : Word) (s : State) : Out :=
  let t := s.consume 3 20
  .next (t.write16 nn t.cpu.sp)

/-- `LD A,(BC)` (R135). -/
def execLd_A_atBC (s : State) : Out := ldRegAt .a .bc s

/-- `LD C,n` (R131). -/
def execLd_C_n (n : Byte) (s : State) : Out := ldRegImm .c n s

/-- `LD DE,nn` (R149). -/
def execLd_DE_nn (nn : Word) (s : State) : Out := ldPairImm .de nn s

/-- `LD (DE),A` (R138). -/
def execLd_atDE_A (s : State) : Out := ldAtReg .de .a s

/-- `LD D,n` (R131). -/
def execLd_D_n (n : Byte) (s : State) : Out := ldRegImm .d n s

/-- `LD A,(DE)` (R136). -/
def execLd_A_atDE (s : State) : Out := ldRegAt .a .de s

/-- `LD E,n` (R131). -/
def execLd_E_n (n : Byte) (s : State) : Out := ldRegImm .e n s

/-- `LD HL,nn` (R149). -/
def execLd_HL_nn (nn : Word) (s : State) : Out := ldPairImm .hl nn s

/-- `LD (HL+),A` (R148). -/
def execLd_atHLi_A (s : State) : Out := ldHlStepA 1#16 s

/-- `LD H,n` (R131). -/
def execLd_H_n (n : Byte) (s : State) : Out := ldRegImm .h n s

/-- `LD A,(HL+)` (R147). -/
def execLd_A_atHLi (s : State) : Out := ldAHlStep 1#16 s

/-- `LD L,n` (R131). -/
def execLd_L_n (n : Byte) (s : State) : Out := ldRegImm .l n s

/-- `LD SP,nn` (R149). -/
def execLd_SP_nn (nn : Word) (s : State) : Out := ldPairImm .sp nn s

/-- `LD (HL-),A` (R146). -/
def execLd_atHLd_A (s : State) : Out := ldHlStepA 0xFFFF#16 s

/-- `LD (HL),n` (R134). -/
def execLd_atHL_n (n : Byte) (s : State) : Out := ldAtHlImm n s

/-- `LD A,(HL-)` (R145). -/
def execLd_A_atHLd (s : State) : Out := ldAHlStep 0xFFFF#16 s

/-- `LD A,n` (R131). -/
def execLd_A_n (n : Byte) (s : State) : Out := ldRegImm .a n s

/-- `LD B,B` (R130). -/
def execLd_B_B (s : State) : Out := ldRegReg .b .b s

/-- `LD B,C` (R130). -/
def execLd_B_C (s : State) : Out := ldRegReg .b .c s

/-- `LD B,D` (R130). -/
def execLd_B_D (s : State) : Out := ldRegReg .b .d s

/-- `LD B,E` (R130). -/
def execLd_B_E (s : State) : Out := ldRegReg .b .e s

/-- `LD B,H` (R130). -/
def execLd_B_H (s : State) : Out := ldRegReg .b .h s

/-- `LD B,L` (R130). -/
def execLd_B_L (s : State) : Out := ldRegReg .b .l s

/-- `LD B,(HL)` (R132). -/
def execLd_B_atHL (s : State) : Out := ldRegAt .b .hl s

/-- `LD B,A` (R130). -/
def execLd_B_A (s : State) : Out := ldRegReg .b .a s

/-- `LD C,B` (R130). -/
def execLd_C_B (s : State) : Out := ldRegReg .c .b s

/-- `LD C,C` (R130). -/
def execLd_C_C (s : State) : Out := ldRegReg .c .c s

/-- `LD C,D` (R130). -/
def execLd_C_D (s : State) : Out := ldRegReg .c .d s

/-- `LD C,E` (R130). -/
def execLd_C_E (s : State) : Out := ldRegReg .c .e s

/-- `LD C,H` (R130). -/
def execLd_C_H (s : State) : Out := ldRegReg .c .h s

/-- `LD C,L` (R130). -/
def execLd_C_L (s : State) : Out := ldRegReg .c .l s

/-- `LD C,(HL)` (R132). -/
def execLd_C_atHL (s : State) : Out := ldRegAt .c .hl s

/-- `LD C,A` (R130). -/
def execLd_C_A (s : State) : Out := ldRegReg .c .a s

/-- `LD D,B` (R130). -/
def execLd_D_B (s : State) : Out := ldRegReg .d .b s

/-- `LD D,C` (R130). -/
def execLd_D_C (s : State) : Out := ldRegReg .d .c s

/-- `LD D,D` (R130). -/
def execLd_D_D (s : State) : Out := ldRegReg .d .d s

/-- `LD D,E` (R130). -/
def execLd_D_E (s : State) : Out := ldRegReg .d .e s

/-- `LD D,H` (R130). -/
def execLd_D_H (s : State) : Out := ldRegReg .d .h s

/-- `LD D,L` (R130). -/
def execLd_D_L (s : State) : Out := ldRegReg .d .l s

/-- `LD D,(HL)` (R132). -/
def execLd_D_atHL (s : State) : Out := ldRegAt .d .hl s

/-- `LD D,A` (R130). -/
def execLd_D_A (s : State) : Out := ldRegReg .d .a s

/-- `LD E,B` (R130). -/
def execLd_E_B (s : State) : Out := ldRegReg .e .b s

/-- `LD E,C` (R130). -/
def execLd_E_C (s : State) : Out := ldRegReg .e .c s

/-- `LD E,D` (R130). -/
def execLd_E_D (s : State) : Out := ldRegReg .e .d s

/-- `LD E,E` (R130). -/
def execLd_E_E (s : State) : Out := ldRegReg .e .e s

/-- `LD E,H` (R130). -/
def execLd_E_H (s : State) : Out := ldRegReg .e .h s

/-- `LD E,L` (R130). -/
def execLd_E_L (s : State) : Out := ldRegReg .e .l s

/-- `LD E,(HL)` (R132). -/
def execLd_E_atHL (s : State) : Out := ldRegAt .e .hl s

/-- `LD E,A` (R130). -/
def execLd_E_A (s : State) : Out := ldRegReg .e .a s

/-- `LD H,B` (R130). -/
def execLd_H_B (s : State) : Out := ldRegReg .h .b s

/-- `LD H,C` (R130). -/
def execLd_H_C (s : State) : Out := ldRegReg .h .c s

/-- `LD H,D` (R130). -/
def execLd_H_D (s : State) : Out := ldRegReg .h .d s

/-- `LD H,E` (R130). -/
def execLd_H_E (s : State) : Out := ldRegReg .h .e s

/-- `LD H,H` (R130). -/
def execLd_H_H (s : State) : Out := ldRegReg .h .h s

/-- `LD H,L` (R130). -/
def execLd_H_L (s : State) : Out := ldRegReg .h .l s

/-- `LD H,(HL)` (R132). -/
def execLd_H_atHL (s : State) : Out := ldRegAt .h .hl s

/-- `LD H,A` (R130). -/
def execLd_H_A (s : State) : Out := ldRegReg .h .a s

/-- `LD L,B` (R130). -/
def execLd_L_B (s : State) : Out := ldRegReg .l .b s

/-- `LD L,C` (R130). -/
def execLd_L_C (s : State) : Out := ldRegReg .l .c s

/-- `LD L,D` (R130). -/
def execLd_L_D (s : State) : Out := ldRegReg .l .d s

/-- `LD L,E` (R130). -/
def execLd_L_E (s : State) : Out := ldRegReg .l .e s

/-- `LD L,H` (R130). -/
def execLd_L_H (s : State) : Out := ldRegReg .l .h s

/-- `LD L,L` (R130). -/
def execLd_L_L (s : State) : Out := ldRegReg .l .l s

/-- `LD L,(HL)` (R132). -/
def execLd_L_atHL (s : State) : Out := ldRegAt .l .hl s

/-- `LD L,A` (R130). -/
def execLd_L_A (s : State) : Out := ldRegReg .l .a s

/-- `LD (HL),B` (R133). -/
def execLd_atHL_B (s : State) : Out := ldAtReg .hl .b s

/-- `LD (HL),C` (R133). -/
def execLd_atHL_C (s : State) : Out := ldAtReg .hl .c s

/-- `LD (HL),D` (R133). -/
def execLd_atHL_D (s : State) : Out := ldAtReg .hl .d s

/-- `LD (HL),E` (R133). -/
def execLd_atHL_E (s : State) : Out := ldAtReg .hl .e s

/-- `LD (HL),H` (R133). -/
def execLd_atHL_H (s : State) : Out := ldAtReg .hl .h s

/-- `LD (HL),L` (R133). -/
def execLd_atHL_L (s : State) : Out := ldAtReg .hl .l s

/-- `LD (HL),A` (R133). -/
def execLd_atHL_A (s : State) : Out := ldAtReg .hl .a s

/-- `LD A,B` (R130). -/
def execLd_A_B (s : State) : Out := ldRegReg .a .b s

/-- `LD A,C` (R130). -/
def execLd_A_C (s : State) : Out := ldRegReg .a .c s

/-- `LD A,D` (R130). -/
def execLd_A_D (s : State) : Out := ldRegReg .a .d s

/-- `LD A,E` (R130). -/
def execLd_A_E (s : State) : Out := ldRegReg .a .e s

/-- `LD A,H` (R130). -/
def execLd_A_H (s : State) : Out := ldRegReg .a .h s

/-- `LD A,L` (R130). -/
def execLd_A_L (s : State) : Out := ldRegReg .a .l s

/-- `LD A,(HL)` (R132). -/
def execLd_A_atHL (s : State) : Out := ldRegAt .a .hl s

/-- `LD A,A` (R130). -/
def execLd_A_A (s : State) : Out := ldRegReg .a .a s

/-- `POP BC` (R153). -/
def execPop_BC (s : State) : Out := popPair .bc s

/-- `PUSH BC` (R152). -/
def execPush_BC (s : State) : Out := pushPair .bc s

/-- `POP DE` (R153). -/
def execPop_DE (s : State) : Out := popPair .de s

/-- `PUSH DE` (R152). -/
def execPush_DE (s : State) : Out := pushPair .de s

/-- `LDH (n),A` (R144). -/
def execLdh_atN_A (n : Byte) (s : State) : Out := ldAtA 2 12 (highPage n) s

/-- `POP HL` (R153). -/
def execPop_HL (s : State) : Out := popPair .hl s

/-- `LDH (C),A` (R142). -/
def execLdh_atC_A (s : State) : Out := ldAtA 1 8 (highPage s.cpu.c) s

/-- `PUSH HL` (R152). -/
def execPush_HL (s : State) : Out := pushPair .hl s

/-- `LD (nn),A` (R140). -/
def execLd_atNN_A (nn : Word) (s : State) : Out := ldAtA 3 16 nn s

/-- `LDH A,(n)` (R143). -/
def execLdh_A_atN (n : Byte) (s : State) : Out := ldAFrom 2 12 (highPage n) s

/-- `POP AF` (R153). -/
def execPop_AF (s : State) : Out := popPair .af s

/-- `LDH A,(C)` (R141). -/
def execLdh_A_atC (s : State) : Out := ldAFrom 1 8 (highPage s.cpu.c) s

/-- `PUSH AF` (R152). -/
def execPush_AF (s : State) : Out := pushPair .af s

/-- `LD SP,HL` (R151). -/
def execLd_SP_HL (s : State) : Out := .next ((s.consume 1 8).mapCpu fun u => { u with sp := u.hl })

/-- `LD A,(nn)` (R139). -/
def execLd_A_atNN (nn : Word) (s : State) : Out := ldAFrom 3 16 nn s

end Sys2Proof.Machine
end

