-- ==== Sys2Proof/Machine/RotateBit.lean ====
section
/-! DEFINITION. Meanings of the rotate, shift and bit instructions (spec/43_rotate_shift_bit.md R210 to R225): the shared
forms first, then one meaning per constructor. -/

namespace Sys2Proof.Machine

/-- Rotate `A` (R210 to R213). -/
def rotateA (op : RotOp) (s : State) : Out :=
  let t := s.consume 1 4
  .next (t.setResult (rotA8 op t.cpu.a t.cpu.flags))

/-- Cost of a prefixed instruction that writes its operand back (R214, 30_encoding.md R110). -/
def prefixedCost : Loc8 → Nat
  | .reg _ => 8
  | .atHL => 16

/-- Cost of `BIT`, which writes nothing back (R214, R223). -/
def bitCost : Loc8 → Nat
  | .reg _ => 8
  | .atHL => 12

/-- Rotate or shift a location (R215 to R222). -/
def rotateLoc (op : RotOp) (x : Loc8) (s : State) : Out :=
  let t := s.consume 2 (prefixedCost x)
  let r := rot8 op (t.loc x) t.cpu.flags
  .next ((t.setLoc x r.val).setFlags r.flags)

/-- Test bit `b` of a location (R223). -/
def testBit (b : Field3) (x : Loc8) (s : State) : Out :=
  let t := s.consume 2 (bitCost x)
  .next (t.setFlags (bitFlags b (t.loc x) t.cpu.flags))

/-- Change one bit of a location, no flag (R224, R225). -/
def changeBit (f : Byte → Byte) (x : Loc8) (s : State) : Out :=
  let t := s.consume 2 (prefixedCost x)
  .next (t.setLoc x (f (t.loc x)))

/-! ## One meaning per constructor -/

/-- `RLCA` (R210). -/
def execRlca (s : State) : Out := rotateA .rlc s

/-- `RRCA` (R212). -/
def execRrca (s : State) : Out := rotateA .rrc s

/-- `RLA` (R211). -/
def execRla (s : State) : Out := rotateA .rl s

/-- `RRA` (R213). -/
def execRra (s : State) : Out := rotateA .rr s

/-- `RLC B` (R215). -/
def execRlc_B (s : State) : Out := rotateLoc .rlc (.reg .b) s

/-- `RLC C` (R215). -/
def execRlc_C (s : State) : Out := rotateLoc .rlc (.reg .c) s

/-- `RLC D` (R215). -/
def execRlc_D (s : State) : Out := rotateLoc .rlc (.reg .d) s

/-- `RLC E` (R215). -/
def execRlc_E (s : State) : Out := rotateLoc .rlc (.reg .e) s

/-- `RLC H` (R215). -/
def execRlc_H (s : State) : Out := rotateLoc .rlc (.reg .h) s

/-- `RLC L` (R215). -/
def execRlc_L (s : State) : Out := rotateLoc .rlc (.reg .l) s

/-- `RLC (HL)` (R215). -/
def execRlc_atHL (s : State) : Out := rotateLoc .rlc .atHL s

/-- `RLC A` (R215). -/
def execRlc_A (s : State) : Out := rotateLoc .rlc (.reg .a) s

/-- `RRC B` (R216). -/
def execRrc_B (s : State) : Out := rotateLoc .rrc (.reg .b) s

/-- `RRC C` (R216). -/
def execRrc_C (s : State) : Out := rotateLoc .rrc (.reg .c) s

/-- `RRC D` (R216). -/
def execRrc_D (s : State) : Out := rotateLoc .rrc (.reg .d) s

/-- `RRC E` (R216). -/
def execRrc_E (s : State) : Out := rotateLoc .rrc (.reg .e) s

/-- `RRC H` (R216). -/
def execRrc_H (s : State) : Out := rotateLoc .rrc (.reg .h) s

/-- `RRC L` (R216). -/
def execRrc_L (s : State) : Out := rotateLoc .rrc (.reg .l) s

/-- `RRC (HL)` (R216). -/
def execRrc_atHL (s : State) : Out := rotateLoc .rrc .atHL s

/-- `RRC A` (R216). -/
def execRrc_A (s : State) : Out := rotateLoc .rrc (.reg .a) s

/-- `RL B` (R217). -/
def execRl_B (s : State) : Out := rotateLoc .rl (.reg .b) s

/-- `RL C` (R217). -/
def execRl_C (s : State) : Out := rotateLoc .rl (.reg .c) s

/-- `RL D` (R217). -/
def execRl_D (s : State) : Out := rotateLoc .rl (.reg .d) s

/-- `RL E` (R217). -/
def execRl_E (s : State) : Out := rotateLoc .rl (.reg .e) s

/-- `RL H` (R217). -/
def execRl_H (s : State) : Out := rotateLoc .rl (.reg .h) s

/-- `RL L` (R217). -/
def execRl_L (s : State) : Out := rotateLoc .rl (.reg .l) s

/-- `RL (HL)` (R217). -/
def execRl_atHL (s : State) : Out := rotateLoc .rl .atHL s

/-- `RL A` (R217). -/
def execRl_A (s : State) : Out := rotateLoc .rl (.reg .a) s

/-- `RR B` (R218). -/
def execRr_B (s : State) : Out := rotateLoc .rr (.reg .b) s

/-- `RR C` (R218). -/
def execRr_C (s : State) : Out := rotateLoc .rr (.reg .c) s

/-- `RR D` (R218). -/
def execRr_D (s : State) : Out := rotateLoc .rr (.reg .d) s

/-- `RR E` (R218). -/
def execRr_E (s : State) : Out := rotateLoc .rr (.reg .e) s

/-- `RR H` (R218). -/
def execRr_H (s : State) : Out := rotateLoc .rr (.reg .h) s

/-- `RR L` (R218). -/
def execRr_L (s : State) : Out := rotateLoc .rr (.reg .l) s

/-- `RR (HL)` (R218). -/
def execRr_atHL (s : State) : Out := rotateLoc .rr .atHL s

/-- `RR A` (R218). -/
def execRr_A (s : State) : Out := rotateLoc .rr (.reg .a) s

/-- `SLA B` (R219). -/
def execSla_B (s : State) : Out := rotateLoc .sla (.reg .b) s

/-- `SLA C` (R219). -/
def execSla_C (s : State) : Out := rotateLoc .sla (.reg .c) s

/-- `SLA D` (R219). -/
def execSla_D (s : State) : Out := rotateLoc .sla (.reg .d) s

/-- `SLA E` (R219). -/
def execSla_E (s : State) : Out := rotateLoc .sla (.reg .e) s

/-- `SLA H` (R219). -/
def execSla_H (s : State) : Out := rotateLoc .sla (.reg .h) s

/-- `SLA L` (R219). -/
def execSla_L (s : State) : Out := rotateLoc .sla (.reg .l) s

/-- `SLA (HL)` (R219). -/
def execSla_atHL (s : State) : Out := rotateLoc .sla .atHL s

/-- `SLA A` (R219). -/
def execSla_A (s : State) : Out := rotateLoc .sla (.reg .a) s

/-- `SRA B` (R220). -/
def execSra_B (s : State) : Out := rotateLoc .sra (.reg .b) s

/-- `SRA C` (R220). -/
def execSra_C (s : State) : Out := rotateLoc .sra (.reg .c) s

/-- `SRA D` (R220). -/
def execSra_D (s : State) : Out := rotateLoc .sra (.reg .d) s

/-- `SRA E` (R220). -/
def execSra_E (s : State) : Out := rotateLoc .sra (.reg .e) s

/-- `SRA H` (R220). -/
def execSra_H (s : State) : Out := rotateLoc .sra (.reg .h) s

/-- `SRA L` (R220). -/
def execSra_L (s : State) : Out := rotateLoc .sra (.reg .l) s

/-- `SRA (HL)` (R220). -/
def execSra_atHL (s : State) : Out := rotateLoc .sra .atHL s

/-- `SRA A` (R220). -/
def execSra_A (s : State) : Out := rotateLoc .sra (.reg .a) s

/-- `SWAP B` (R221). -/
def execSwap_B (s : State) : Out := rotateLoc .swap (.reg .b) s

/-- `SWAP C` (R221). -/
def execSwap_C (s : State) : Out := rotateLoc .swap (.reg .c) s

/-- `SWAP D` (R221). -/
def execSwap_D (s : State) : Out := rotateLoc .swap (.reg .d) s

/-- `SWAP E` (R221). -/
def execSwap_E (s : State) : Out := rotateLoc .swap (.reg .e) s

/-- `SWAP H` (R221). -/
def execSwap_H (s : State) : Out := rotateLoc .swap (.reg .h) s

/-- `SWAP L` (R221). -/
def execSwap_L (s : State) : Out := rotateLoc .swap (.reg .l) s

/-- `SWAP (HL)` (R221). -/
def execSwap_atHL (s : State) : Out := rotateLoc .swap .atHL s

/-- `SWAP A` (R221). -/
def execSwap_A (s : State) : Out := rotateLoc .swap (.reg .a) s

/-- `SRL B` (R222). -/
def execSrl_B (s : State) : Out := rotateLoc .srl (.reg .b) s

/-- `SRL C` (R222). -/
def execSrl_C (s : State) : Out := rotateLoc .srl (.reg .c) s

/-- `SRL D` (R222). -/
def execSrl_D (s : State) : Out := rotateLoc .srl (.reg .d) s

/-- `SRL E` (R222). -/
def execSrl_E (s : State) : Out := rotateLoc .srl (.reg .e) s

/-- `SRL H` (R222). -/
def execSrl_H (s : State) : Out := rotateLoc .srl (.reg .h) s

/-- `SRL L` (R222). -/
def execSrl_L (s : State) : Out := rotateLoc .srl (.reg .l) s

/-- `SRL (HL)` (R222). -/
def execSrl_atHL (s : State) : Out := rotateLoc .srl .atHL s

/-- `SRL A` (R222). -/
def execSrl_A (s : State) : Out := rotateLoc .srl (.reg .a) s

/-- `BIT 0,B` (R223). -/
def execBit_0_B (s : State) : Out := testBit .o0 (.reg .b) s

/-- `BIT 0,C` (R223). -/
def execBit_0_C (s : State) : Out := testBit .o0 (.reg .c) s

/-- `BIT 0,D` (R223). -/
def execBit_0_D (s : State) : Out := testBit .o0 (.reg .d) s

/-- `BIT 0,E` (R223). -/
def execBit_0_E (s : State) : Out := testBit .o0 (.reg .e) s

/-- `BIT 0,H` (R223). -/
def execBit_0_H (s : State) : Out := testBit .o0 (.reg .h) s

/-- `BIT 0,L` (R223). -/
def execBit_0_L (s : State) : Out := testBit .o0 (.reg .l) s

/-- `BIT 0,(HL)` (R223). -/
def execBit_0_atHL (s : State) : Out := testBit .o0 .atHL s

/-- `BIT 0,A` (R223). -/
def execBit_0_A (s : State) : Out := testBit .o0 (.reg .a) s

/-- `BIT 1,B` (R223). -/
def execBit_1_B (s : State) : Out := testBit .o1 (.reg .b) s

/-- `BIT 1,C` (R223). -/
def execBit_1_C (s : State) : Out := testBit .o1 (.reg .c) s

/-- `BIT 1,D` (R223). -/
def execBit_1_D (s : State) : Out := testBit .o1 (.reg .d) s

/-- `BIT 1,E` (R223). -/
def execBit_1_E (s : State) : Out := testBit .o1 (.reg .e) s

/-- `BIT 1,H` (R223). -/
def execBit_1_H (s : State) : Out := testBit .o1 (.reg .h) s

/-- `BIT 1,L` (R223). -/
def execBit_1_L (s : State) : Out := testBit .o1 (.reg .l) s

/-- `BIT 1,(HL)` (R223). -/
def execBit_1_atHL (s : State) : Out := testBit .o1 .atHL s

/-- `BIT 1,A` (R223). -/
def execBit_1_A (s : State) : Out := testBit .o1 (.reg .a) s

/-- `BIT 2,B` (R223). -/
def execBit_2_B (s : State) : Out := testBit .o2 (.reg .b) s

/-- `BIT 2,C` (R223). -/
def execBit_2_C (s : State) : Out := testBit .o2 (.reg .c) s

/-- `BIT 2,D` (R223). -/
def execBit_2_D (s : State) : Out := testBit .o2 (.reg .d) s

/-- `BIT 2,E` (R223). -/
def execBit_2_E (s : State) : Out := testBit .o2 (.reg .e) s

/-- `BIT 2,H` (R223). -/
def execBit_2_H (s : State) : Out := testBit .o2 (.reg .h) s

/-- `BIT 2,L` (R223). -/
def execBit_2_L (s : State) : Out := testBit .o2 (.reg .l) s

/-- `BIT 2,(HL)` (R223). -/
def execBit_2_atHL (s : State) : Out := testBit .o2 .atHL s

/-- `BIT 2,A` (R223). -/
def execBit_2_A (s : State) : Out := testBit .o2 (.reg .a) s

/-- `BIT 3,B` (R223). -/
def execBit_3_B (s : State) : Out := testBit .o3 (.reg .b) s

/-- `BIT 3,C` (R223). -/
def execBit_3_C (s : State) : Out := testBit .o3 (.reg .c) s

/-- `BIT 3,D` (R223). -/
def execBit_3_D (s : State) : Out := testBit .o3 (.reg .d) s

/-- `BIT 3,E` (R223). -/
def execBit_3_E (s : State) : Out := testBit .o3 (.reg .e) s

/-- `BIT 3,H` (R223). -/
def execBit_3_H (s : State) : Out := testBit .o3 (.reg .h) s

/-- `BIT 3,L` (R223). -/
def execBit_3_L (s : State) : Out := testBit .o3 (.reg .l) s

/-- `BIT 3,(HL)` (R223). -/
def execBit_3_atHL (s : State) : Out := testBit .o3 .atHL s

/-- `BIT 3,A` (R223). -/
def execBit_3_A (s : State) : Out := testBit .o3 (.reg .a) s

/-- `BIT 4,B` (R223). -/
def execBit_4_B (s : State) : Out := testBit .o4 (.reg .b) s

/-- `BIT 4,C` (R223). -/
def execBit_4_C (s : State) : Out := testBit .o4 (.reg .c) s

/-- `BIT 4,D` (R223). -/
def execBit_4_D (s : State) : Out := testBit .o4 (.reg .d) s

/-- `BIT 4,E` (R223). -/
def execBit_4_E (s : State) : Out := testBit .o4 (.reg .e) s

/-- `BIT 4,H` (R223). -/
def execBit_4_H (s : State) : Out := testBit .o4 (.reg .h) s

/-- `BIT 4,L` (R223). -/
def execBit_4_L (s : State) : Out := testBit .o4 (.reg .l) s

/-- `BIT 4,(HL)` (R223). -/
def execBit_4_atHL (s : State) : Out := testBit .o4 .atHL s

/-- `BIT 4,A` (R223). -/
def execBit_4_A (s : State) : Out := testBit .o4 (.reg .a) s

/-- `BIT 5,B` (R223). -/
def execBit_5_B (s : State) : Out := testBit .o5 (.reg .b) s

/-- `BIT 5,C` (R223). -/
def execBit_5_C (s : State) : Out := testBit .o5 (.reg .c) s

/-- `BIT 5,D` (R223). -/
def execBit_5_D (s : State) : Out := testBit .o5 (.reg .d) s

/-- `BIT 5,E` (R223). -/
def execBit_5_E (s : State) : Out := testBit .o5 (.reg .e) s

/-- `BIT 5,H` (R223). -/
def execBit_5_H (s : State) : Out := testBit .o5 (.reg .h) s

/-- `BIT 5,L` (R223). -/
def execBit_5_L (s : State) : Out := testBit .o5 (.reg .l) s

/-- `BIT 5,(HL)` (R223). -/
def execBit_5_atHL (s : State) : Out := testBit .o5 .atHL s

/-- `BIT 5,A` (R223). -/
def execBit_5_A (s : State) : Out := testBit .o5 (.reg .a) s

/-- `BIT 6,B` (R223). -/
def execBit_6_B (s : State) : Out := testBit .o6 (.reg .b) s

/-- `BIT 6,C` (R223). -/
def execBit_6_C (s : State) : Out := testBit .o6 (.reg .c) s

/-- `BIT 6,D` (R223). -/
def execBit_6_D (s : State) : Out := testBit .o6 (.reg .d) s

/-- `BIT 6,E` (R223). -/
def execBit_6_E (s : State) : Out := testBit .o6 (.reg .e) s

/-- `BIT 6,H` (R223). -/
def execBit_6_H (s : State) : Out := testBit .o6 (.reg .h) s

/-- `BIT 6,L` (R223). -/
def execBit_6_L (s : State) : Out := testBit .o6 (.reg .l) s

/-- `BIT 6,(HL)` (R223). -/
def execBit_6_atHL (s : State) : Out := testBit .o6 .atHL s

/-- `BIT 6,A` (R223). -/
def execBit_6_A (s : State) : Out := testBit .o6 (.reg .a) s

/-- `BIT 7,B` (R223). -/
def execBit_7_B (s : State) : Out := testBit .o7 (.reg .b) s

/-- `BIT 7,C` (R223). -/
def execBit_7_C (s : State) : Out := testBit .o7 (.reg .c) s

/-- `BIT 7,D` (R223). -/
def execBit_7_D (s : State) : Out := testBit .o7 (.reg .d) s

/-- `BIT 7,E` (R223). -/
def execBit_7_E (s : State) : Out := testBit .o7 (.reg .e) s

/-- `BIT 7,H` (R223). -/
def execBit_7_H (s : State) : Out := testBit .o7 (.reg .h) s

/-- `BIT 7,L` (R223). -/
def execBit_7_L (s : State) : Out := testBit .o7 (.reg .l) s

/-- `BIT 7,(HL)` (R223). -/
def execBit_7_atHL (s : State) : Out := testBit .o7 .atHL s

/-- `BIT 7,A` (R223). -/
def execBit_7_A (s : State) : Out := testBit .o7 (.reg .a) s

/-- `RES 0,B` (R224). -/
def execRes_0_B (s : State) : Out := changeBit (res8 .o0) (.reg .b) s

/-- `RES 0,C` (R224). -/
def execRes_0_C (s : State) : Out := changeBit (res8 .o0) (.reg .c) s

/-- `RES 0,D` (R224). -/
def execRes_0_D (s : State) : Out := changeBit (res8 .o0) (.reg .d) s

/-- `RES 0,E` (R224). -/
def execRes_0_E (s : State) : Out := changeBit (res8 .o0) (.reg .e) s

/-- `RES 0,H` (R224). -/
def execRes_0_H (s : State) : Out := changeBit (res8 .o0) (.reg .h) s

/-- `RES 0,L` (R224). -/
def execRes_0_L (s : State) : Out := changeBit (res8 .o0) (.reg .l) s

/-- `RES 0,(HL)` (R224). -/
def execRes_0_atHL (s : State) : Out := changeBit (res8 .o0) .atHL s

/-- `RES 0,A` (R224). -/
def execRes_0_A (s : State) : Out := changeBit (res8 .o0) (.reg .a) s

/-- `RES 1,B` (R224). -/
def execRes_1_B (s : State) : Out := changeBit (res8 .o1) (.reg .b) s

/-- `RES 1,C` (R224). -/
def execRes_1_C (s : State) : Out := changeBit (res8 .o1) (.reg .c) s

/-- `RES 1,D` (R224). -/
def execRes_1_D (s : State) : Out := changeBit (res8 .o1) (.reg .d) s

/-- `RES 1,E` (R224). -/
def execRes_1_E (s : State) : Out := changeBit (res8 .o1) (.reg .e) s

/-- `RES 1,H` (R224). -/
def execRes_1_H (s : State) : Out := changeBit (res8 .o1) (.reg .h) s

/-- `RES 1,L` (R224). -/
def execRes_1_L (s : State) : Out := changeBit (res8 .o1) (.reg .l) s

/-- `RES 1,(HL)` (R224). -/
def execRes_1_atHL (s : State) : Out := changeBit (res8 .o1) .atHL s

/-- `RES 1,A` (R224). -/
def execRes_1_A (s : State) : Out := changeBit (res8 .o1) (.reg .a) s

/-- `RES 2,B` (R224). -/
def execRes_2_B (s : State) : Out := changeBit (res8 .o2) (.reg .b) s

/-- `RES 2,C` (R224). -/
def execRes_2_C (s : State) : Out := changeBit (res8 .o2) (.reg .c) s

/-- `RES 2,D` (R224). -/
def execRes_2_D (s : State) : Out := changeBit (res8 .o2) (.reg .d) s

/-- `RES 2,E` (R224). -/
def execRes_2_E (s : State) : Out := changeBit (res8 .o2) (.reg .e) s

/-- `RES 2,H` (R224). -/
def execRes_2_H (s : State) : Out := changeBit (res8 .o2) (.reg .h) s

/-- `RES 2,L` (R224). -/
def execRes_2_L (s : State) : Out := changeBit (res8 .o2) (.reg .l) s

/-- `RES 2,(HL)` (R224). -/
def execRes_2_atHL (s : State) : Out := changeBit (res8 .o2) .atHL s

/-- `RES 2,A` (R224). -/
def execRes_2_A (s : State) : Out := changeBit (res8 .o2) (.reg .a) s

/-- `RES 3,B` (R224). -/
def execRes_3_B (s : State) : Out := changeBit (res8 .o3) (.reg .b) s

/-- `RES 3,C` (R224). -/
def execRes_3_C (s : State) : Out := changeBit (res8 .o3) (.reg .c) s

/-- `RES 3,D` (R224). -/
def execRes_3_D (s : State) : Out := changeBit (res8 .o3) (.reg .d) s

/-- `RES 3,E` (R224). -/
def execRes_3_E (s : State) : Out := changeBit (res8 .o3) (.reg .e) s

/-- `RES 3,H` (R224). -/
def execRes_3_H (s : State) : Out := changeBit (res8 .o3) (.reg .h) s

/-- `RES 3,L` (R224). -/
def execRes_3_L (s : State) : Out := changeBit (res8 .o3) (.reg .l) s

/-- `RES 3,(HL)` (R224). -/
def execRes_3_atHL (s : State) : Out := changeBit (res8 .o3) .atHL s

/-- `RES 3,A` (R224). -/
def execRes_3_A (s : State) : Out := changeBit (res8 .o3) (.reg .a) s

/-- `RES 4,B` (R224). -/
def execRes_4_B (s : State) : Out := changeBit (res8 .o4) (.reg .b) s

/-- `RES 4,C` (R224). -/
def execRes_4_C (s : State) : Out := changeBit (res8 .o4) (.reg .c) s

/-- `RES 4,D` (R224). -/
def execRes_4_D (s : State) : Out := changeBit (res8 .o4) (.reg .d) s

/-- `RES 4,E` (R224). -/
def execRes_4_E (s : State) : Out := changeBit (res8 .o4) (.reg .e) s

/-- `RES 4,H` (R224). -/
def execRes_4_H (s : State) : Out := changeBit (res8 .o4) (.reg .h) s

/-- `RES 4,L` (R224). -/
def execRes_4_L (s : State) : Out := changeBit (res8 .o4) (.reg .l) s

/-- `RES 4,(HL)` (R224). -/
def execRes_4_atHL (s : State) : Out := changeBit (res8 .o4) .atHL s

/-- `RES 4,A` (R224). -/
def execRes_4_A (s : State) : Out := changeBit (res8 .o4) (.reg .a) s

/-- `RES 5,B` (R224). -/
def execRes_5_B (s : State) : Out := changeBit (res8 .o5) (.reg .b) s

/-- `RES 5,C` (R224). -/
def execRes_5_C (s : State) : Out := changeBit (res8 .o5) (.reg .c) s

/-- `RES 5,D` (R224). -/
def execRes_5_D (s : State) : Out := changeBit (res8 .o5) (.reg .d) s

/-- `RES 5,E` (R224). -/
def execRes_5_E (s : State) : Out := changeBit (res8 .o5) (.reg .e) s

/-- `RES 5,H` (R224). -/
def execRes_5_H (s : State) : Out := changeBit (res8 .o5) (.reg .h) s

/-- `RES 5,L` (R224). -/
def execRes_5_L (s : State) : Out := changeBit (res8 .o5) (.reg .l) s

/-- `RES 5,(HL)` (R224). -/
def execRes_5_atHL (s : State) : Out := changeBit (res8 .o5) .atHL s

/-- `RES 5,A` (R224). -/
def execRes_5_A (s : State) : Out := changeBit (res8 .o5) (.reg .a) s

/-- `RES 6,B` (R224). -/
def execRes_6_B (s : State) : Out := changeBit (res8 .o6) (.reg .b) s

/-- `RES 6,C` (R224). -/
def execRes_6_C (s : State) : Out := changeBit (res8 .o6) (.reg .c) s

/-- `RES 6,D` (R224). -/
def execRes_6_D (s : State) : Out := changeBit (res8 .o6) (.reg .d) s

/-- `RES 6,E` (R224). -/
def execRes_6_E (s : State) : Out := changeBit (res8 .o6) (.reg .e) s

/-- `RES 6,H` (R224). -/
def execRes_6_H (s : State) : Out := changeBit (res8 .o6) (.reg .h) s

/-- `RES 6,L` (R224). -/
def execRes_6_L (s : State) : Out := changeBit (res8 .o6) (.reg .l) s

/-- `RES 6,(HL)` (R224). -/
def execRes_6_atHL (s : State) : Out := changeBit (res8 .o6) .atHL s

/-- `RES 6,A` (R224). -/
def execRes_6_A (s : State) : Out := changeBit (res8 .o6) (.reg .a) s

/-- `RES 7,B` (R224). -/
def execRes_7_B (s : State) : Out := changeBit (res8 .o7) (.reg .b) s

/-- `RES 7,C` (R224). -/
def execRes_7_C (s : State) : Out := changeBit (res8 .o7) (.reg .c) s

/-- `RES 7,D` (R224). -/
def execRes_7_D (s : State) : Out := changeBit (res8 .o7) (.reg .d) s

/-- `RES 7,E` (R224). -/
def execRes_7_E (s : State) : Out := changeBit (res8 .o7) (.reg .e) s

/-- `RES 7,H` (R224). -/
def execRes_7_H (s : State) : Out := changeBit (res8 .o7) (.reg .h) s

/-- `RES 7,L` (R224). -/
def execRes_7_L (s : State) : Out := changeBit (res8 .o7) (.reg .l) s

/-- `RES 7,(HL)` (R224). -/
def execRes_7_atHL (s : State) : Out := changeBit (res8 .o7) .atHL s

/-- `RES 7,A` (R224). -/
def execRes_7_A (s : State) : Out := changeBit (res8 .o7) (.reg .a) s

/-- `SET 0,B` (R225). -/
def execSet_0_B (s : State) : Out := changeBit (set8 .o0) (.reg .b) s

/-- `SET 0,C` (R225). -/
def execSet_0_C (s : State) : Out := changeBit (set8 .o0) (.reg .c) s

/-- `SET 0,D` (R225). -/
def execSet_0_D (s : State) : Out := changeBit (set8 .o0) (.reg .d) s

/-- `SET 0,E` (R225). -/
def execSet_0_E (s : State) : Out := changeBit (set8 .o0) (.reg .e) s

/-- `SET 0,H` (R225). -/
def execSet_0_H (s : State) : Out := changeBit (set8 .o0) (.reg .h) s

/-- `SET 0,L` (R225). -/
def execSet_0_L (s : State) : Out := changeBit (set8 .o0) (.reg .l) s

/-- `SET 0,(HL)` (R225). -/
def execSet_0_atHL (s : State) : Out := changeBit (set8 .o0) .atHL s

/-- `SET 0,A` (R225). -/
def execSet_0_A (s : State) : Out := changeBit (set8 .o0) (.reg .a) s

/-- `SET 1,B` (R225). -/
def execSet_1_B (s : State) : Out := changeBit (set8 .o1) (.reg .b) s

/-- `SET 1,C` (R225). -/
def execSet_1_C (s : State) : Out := changeBit (set8 .o1) (.reg .c) s

/-- `SET 1,D` (R225). -/
def execSet_1_D (s : State) : Out := changeBit (set8 .o1) (.reg .d) s

/-- `SET 1,E` (R225). -/
def execSet_1_E (s : State) : Out := changeBit (set8 .o1) (.reg .e) s

/-- `SET 1,H` (R225). -/
def execSet_1_H (s : State) : Out := changeBit (set8 .o1) (.reg .h) s

/-- `SET 1,L` (R225). -/
def execSet_1_L (s : State) : Out := changeBit (set8 .o1) (.reg .l) s

/-- `SET 1,(HL)` (R225). -/
def execSet_1_atHL (s : State) : Out := changeBit (set8 .o1) .atHL s

/-- `SET 1,A` (R225). -/
def execSet_1_A (s : State) : Out := changeBit (set8 .o1) (.reg .a) s

/-- `SET 2,B` (R225). -/
def execSet_2_B (s : State) : Out := changeBit (set8 .o2) (.reg .b) s

/-- `SET 2,C` (R225). -/
def execSet_2_C (s : State) : Out := changeBit (set8 .o2) (.reg .c) s

/-- `SET 2,D` (R225). -/
def execSet_2_D (s : State) : Out := changeBit (set8 .o2) (.reg .d) s

/-- `SET 2,E` (R225). -/
def execSet_2_E (s : State) : Out := changeBit (set8 .o2) (.reg .e) s

/-- `SET 2,H` (R225). -/
def execSet_2_H (s : State) : Out := changeBit (set8 .o2) (.reg .h) s

/-- `SET 2,L` (R225). -/
def execSet_2_L (s : State) : Out := changeBit (set8 .o2) (.reg .l) s

/-- `SET 2,(HL)` (R225). -/
def execSet_2_atHL (s : State) : Out := changeBit (set8 .o2) .atHL s

/-- `SET 2,A` (R225). -/
def execSet_2_A (s : State) : Out := changeBit (set8 .o2) (.reg .a) s

/-- `SET 3,B` (R225). -/
def execSet_3_B (s : State) : Out := changeBit (set8 .o3) (.reg .b) s

/-- `SET 3,C` (R225). -/
def execSet_3_C (s : State) : Out := changeBit (set8 .o3) (.reg .c) s

/-- `SET 3,D` (R225). -/
def execSet_3_D (s : State) : Out := changeBit (set8 .o3) (.reg .d) s

/-- `SET 3,E` (R225). -/
def execSet_3_E (s : State) : Out := changeBit (set8 .o3) (.reg .e) s

/-- `SET 3,H` (R225). -/
def execSet_3_H (s : State) : Out := changeBit (set8 .o3) (.reg .h) s

/-- `SET 3,L` (R225). -/
def execSet_3_L (s : State) : Out := changeBit (set8 .o3) (.reg .l) s

/-- `SET 3,(HL)` (R225). -/
def execSet_3_atHL (s : State) : Out := changeBit (set8 .o3) .atHL s

/-- `SET 3,A` (R225). -/
def execSet_3_A (s : State) : Out := changeBit (set8 .o3) (.reg .a) s

/-- `SET 4,B` (R225). -/
def execSet_4_B (s : State) : Out := changeBit (set8 .o4) (.reg .b) s

/-- `SET 4,C` (R225). -/
def execSet_4_C (s : State) : Out := changeBit (set8 .o4) (.reg .c) s

/-- `SET 4,D` (R225). -/
def execSet_4_D (s : State) : Out := changeBit (set8 .o4) (.reg .d) s

/-- `SET 4,E` (R225). -/
def execSet_4_E (s : State) : Out := changeBit (set8 .o4) (.reg .e) s

/-- `SET 4,H` (R225). -/
def execSet_4_H (s : State) : Out := changeBit (set8 .o4) (.reg .h) s

/-- `SET 4,L` (R225). -/
def execSet_4_L (s : State) : Out := changeBit (set8 .o4) (.reg .l) s

/-- `SET 4,(HL)` (R225). -/
def execSet_4_atHL (s : State) : Out := changeBit (set8 .o4) .atHL s

/-- `SET 4,A` (R225). -/
def execSet_4_A (s : State) : Out := changeBit (set8 .o4) (.reg .a) s

/-- `SET 5,B` (R225). -/
def execSet_5_B (s : State) : Out := changeBit (set8 .o5) (.reg .b) s

/-- `SET 5,C` (R225). -/
def execSet_5_C (s : State) : Out := changeBit (set8 .o5) (.reg .c) s

/-- `SET 5,D` (R225). -/
def execSet_5_D (s : State) : Out := changeBit (set8 .o5) (.reg .d) s

/-- `SET 5,E` (R225). -/
def execSet_5_E (s : State) : Out := changeBit (set8 .o5) (.reg .e) s

/-- `SET 5,H` (R225). -/
def execSet_5_H (s : State) : Out := changeBit (set8 .o5) (.reg .h) s

/-- `SET 5,L` (R225). -/
def execSet_5_L (s : State) : Out := changeBit (set8 .o5) (.reg .l) s

/-- `SET 5,(HL)` (R225). -/
def execSet_5_atHL (s : State) : Out := changeBit (set8 .o5) .atHL s

/-- `SET 5,A` (R225). -/
def execSet_5_A (s : State) : Out := changeBit (set8 .o5) (.reg .a) s

/-- `SET 6,B` (R225). -/
def execSet_6_B (s : State) : Out := changeBit (set8 .o6) (.reg .b) s

/-- `SET 6,C` (R225). -/
def execSet_6_C (s : State) : Out := changeBit (set8 .o6) (.reg .c) s

/-- `SET 6,D` (R225). -/
def execSet_6_D (s : State) : Out := changeBit (set8 .o6) (.reg .d) s

/-- `SET 6,E` (R225). -/
def execSet_6_E (s : State) : Out := changeBit (set8 .o6) (.reg .e) s

/-- `SET 6,H` (R225). -/
def execSet_6_H (s : State) : Out := changeBit (set8 .o6) (.reg .h) s

/-- `SET 6,L` (R225). -/
def execSet_6_L (s : State) : Out := changeBit (set8 .o6) (.reg .l) s

/-- `SET 6,(HL)` (R225). -/
def execSet_6_atHL (s : State) : Out := changeBit (set8 .o6) .atHL s

/-- `SET 6,A` (R225). -/
def execSet_6_A (s : State) : Out := changeBit (set8 .o6) (.reg .a) s

/-- `SET 7,B` (R225). -/
def execSet_7_B (s : State) : Out := changeBit (set8 .o7) (.reg .b) s

/-- `SET 7,C` (R225). -/
def execSet_7_C (s : State) : Out := changeBit (set8 .o7) (.reg .c) s

/-- `SET 7,D` (R225). -/
def execSet_7_D (s : State) : Out := changeBit (set8 .o7) (.reg .d) s

/-- `SET 7,E` (R225). -/
def execSet_7_E (s : State) : Out := changeBit (set8 .o7) (.reg .e) s

/-- `SET 7,H` (R225). -/
def execSet_7_H (s : State) : Out := changeBit (set8 .o7) (.reg .h) s

/-- `SET 7,L` (R225). -/
def execSet_7_L (s : State) : Out := changeBit (set8 .o7) (.reg .l) s

/-- `SET 7,(HL)` (R225). -/
def execSet_7_atHL (s : State) : Out := changeBit (set8 .o7) .atHL s

/-- `SET 7,A` (R225). -/
def execSet_7_A (s : State) : Out := changeBit (set8 .o7) (.reg .a) s

end Sys2Proof.Machine
end

