-- ==== Sys2Proof/Machine/System.lean ====
section
/-! DEFINITION. Meanings of the system instructions and of the unassigned opcode bytes (spec/45_system.md R260 to R268).
Every device is reached over the bus, so these act on the CPU core alone, and `STOP` on the divider. -/

namespace Sys2Proof.Machine

/-! ## One meaning per constructor -/

/-- `NOP` (R260). -/
def execNop (s : State) : Out := .next (s.consume 1 4)

/-- `STOP` (R262): the second byte is fetched and ignored, the divider is cleared, the clock stops. -/
def execStop (_n : Byte) (s : State) : Out :=
  let t := s.consume 2 4
  .next { t with timer := { t.timer with divCounter := 0#16 }, cpu := { t.cpu with stopped := true } }

/-- `HALT` (R261): with `IME = 0` and an enabled interrupt pending it does not halt but sets `halt_bug`. -/
def execHalt (s : State) : Out :=
  let t := s.consume 1 4
  if t.cpu.ime then .next (t.mapCpu fun u => { u with halted := true })
  else if t.pendingEnabled = 0#5 then .next (t.mapCpu fun u => { u with halted := true })
  else .next (t.mapCpu fun u => { u with haltBug := true })

/-- An unassigned byte (R268): raises `UnsupportedOpcode`. -/
def execIllegal (op : Byte) (s : State) : Out := .next (s.raiseUnsupported op)

/-- `DI` (R263): at once, and cancels a pending `EI`. -/
def execDi (s : State) : Out := .next ((s.consume 1 4).mapCpu fun u => { u with ime := false, imePending := false })

/-- `EI` (R264): takes effect one instruction later. -/
def execEi (s : State) : Out := .next ((s.consume 1 4).mapCpu fun u => { u with imePending := true })

end Sys2Proof.Machine
end

