-- ==== Sys2Proof/Machine/Ppu.lean ====
section
/-! DEFINITION. The PPU scanline engine (spec/61_ppu.md): the state machine cycle by cycle, and the rendering of a
scanline. The PPU reads `VRAM`, `OAM` and its registers directly, past the access gate (spec/20_memory.md R72). -/

namespace Sys2Proof.Machine

/-! ## Tiles (R359) -/

/-- A byte of `VRAM` by its bus address. -/
def State.vramAt (s : State) (addr : Nat) : Byte := s.mem.read .vram (addr - 0x8000)

/-- `tile_ci(addr, row, col)` (R359): the colour index of one pixel of the tile at a bus address. -/
def State.tileCi (s : State) (addr row col : Nat) : BitVec 2 :=
  let lo := s.vramAt (addr + 2 * row)
  let hi := s.vramAt (addr + 2 * row + 1)
  let b := 7 - col
  BitVec.ofBool (hi.getLsbD b) ++ BitVec.ofBool (lo.getLsbD b)

/-- Bus address of background or window tile number `t` (R359). -/
def State.bgTileAddr (s : State) (t : Byte) : Nat :=
  if s.ppu.lcdc.getLsbD 4 then 0x8000 + 16 * t.toNat else ((0x9000 : Int) + 16 * t.toInt).toNat

/-- Colour index at pixel (`px`, `py`) of the tile map at a bus address (R360, R361). -/
def State.mapCi (s : State) (map px py : Nat) : BitVec 2 :=
  let t := s.vramAt (map + 32 * (py / 8) + px / 8)
  s.tileCi (s.bgTileAddr t) (py % 8) (px % 8)

/-! ## Background and window (R360, R361) -/

/-- Background pixel at column `x` (R360). -/
def State.backgroundCi (s : State) (x : Nat) : BitVec 2 :=
  let px := (x + s.ppu.scx.toNat) % 256
  let py := (s.ppu.ly.toNat + s.ppu.scy.toNat) % 256
  s.mapCi (if s.ppu.lcdc.getLsbD 3 then 0x9C00 else 0x9800) px py

/-- The window covers column `x` of this scanline (R361). -/
def State.windowCovers (s : State) (x : Nat) : Bool :=
  s.ppu.lcdc.getLsbD 5 && decide (s.ppu.wy.toNat ≤ s.ppu.ly.toNat) && decide (s.ppu.wx.toNat ≤ x + 7)

/-- Window pixel at column `x`, where the window covers it (R361). -/
def State.windowCi (s : State) (x : Nat) : BitVec 2 :=
  s.mapCi (if s.ppu.lcdc.getLsbD 6 then 0x9C00 else 0x9800) (x + 7 - s.ppu.wx.toNat)
    (s.ppu.ly.toNat - s.ppu.wy.toNat)

/-- `bg_ci` of R365: 0 when disabled, else window, else background. -/
def State.bgCi (s : State) (x : Nat) : BitVec 2 :=
  if s.ppu.lcdc.getLsbD 0 then
    if s.windowCovers x then s.windowCi x else s.backgroundCi x
  else 0#2

/-! ## Sprites (R362 to R364) -/

/-- One entry of the sprite table with its index (R362). -/
structure Sprite where
  index : Nat
  y : Byte
  x : Byte
  tile : Byte
  attrs : Byte
deriving DecidableEq, Repr

/-- Entry `i` of `OAM` (R362). -/
def State.sprite (s : State) (i : Nat) : Sprite where
  index := i
  y := s.mem.read .oam (4 * i)
  x := s.mem.read .oam (4 * i + 1)
  tile := s.mem.read .oam (4 * i + 2)
  attrs := s.mem.read .oam (4 * i + 3)

/-- Sprite height `h` (R362). -/
def State.spriteHeight (s : State) : Nat := if s.ppu.lcdc.getLsbD 2 then 16 else 8

/-- The order of R363: ascending `(X, i)`. -/
def Sprite.before (p q : Sprite) : Bool := decide (p.x.toNat < q.x.toNat) || (p.x == q.x && decide (p.index < q.index))

/-- Put a sprite into a list sorted by `Sprite.before`. -/
def Sprite.insert (p : Sprite) : List Sprite → List Sprite
  | [] => [p]
  | q :: qs => if p.before q then p :: q :: qs else q :: Sprite.insert p qs

/-- Sort by `Sprite.before`. -/
def Sprite.sort : List Sprite → List Sprite
  | [] => []
  | p :: ps => Sprite.insert p (Sprite.sort ps)

/-- The sprite is on this scanline: `Y <= LY + 16 < Y + h` (R363). -/
def State.onScanline (s : State) (p : Sprite) : Bool :=
  decide (p.y.toNat ≤ s.ppu.ly.toNat + 16 ∧ s.ppu.ly.toNat + 16 < p.y.toNat + s.spriteHeight)

/-- The sprites of this scanline: all candidates sorted by `(X, i)`, the first `MAX_SPRITES` of them (R363). -/
def State.selectedSprites (s : State) : List Sprite :=
  if s.ppu.lcdc.getLsbD 1 then
    (Sprite.sort (((List.range 40).map s.sprite).filter s.onScanline)).take Config.maxSprites
  else []

/-- The sprite covers column `x`: `X <= x + 8 < X + 8` (R364). -/
def Sprite.covers (p : Sprite) (x : Nat) : Bool := decide (p.x.toNat ≤ x + 8 ∧ x + 8 < p.x.toNat + 8)

/-- Colour index of a covering sprite at column `x` (R364). -/
def State.spriteCi (s : State) (p : Sprite) (x : Nat) : BitVec 2 :=
  let h := s.spriteHeight
  let col := x + 8 - p.x.toNat
  let row := s.ppu.ly.toNat + 16 - p.y.toNat
  let row := if p.attrs.getLsbD 6 then h - 1 - row else row
  let col := if p.attrs.getLsbD 5 then 7 - col else col
  let t := if h = 16 then (p.tile &&& 0xFE#8).toNat + row / 8 else p.tile.toNat
  s.tileCi (0x8000 + 16 * t) (row % 8) col

/-- The winning sprite at column `x` with its colour index: the first of the list that covers `x` and is not
transparent there (R364). -/
def State.spriteAt (s : State) (x : Nat) : List Sprite → Option (Sprite × BitVec 2)
  | [] => none
  | p :: ps =>
    if p.covers x ∧ s.spriteCi p x ≠ 0#2 then some (p, s.spriteCi p x) else s.spriteAt x ps

/-! ## Composition (R365) -/

/-- `pal[2*ci+1 : 2*ci]` (10_state.md R47). -/
def paletteShade (pal : Byte) (ci : BitVec 2) : Shade := pal.extractLsb' (2 * ci.toNat) 2

/-- The shade at column `x` of this scanline, given its selected sprites (R365). -/
def State.pixel (s : State) (sprites : List Sprite) (x : Nat) : Shade :=
  let bg := s.bgCi x
  match s.spriteAt x sprites with
  | some (p, ci) =>
    if p.attrs.getLsbD 7 = true ∧ bg ≠ 0#2 then paletteShade s.ppu.bgp bg
    else paletteShade (if p.attrs.getLsbD 4 then s.ppu.obp1 else s.ppu.obp0) ci
  | none => paletteShade s.ppu.bgp bg

/-- The 160 shades of this scanline (R358). -/
def State.scanline (s : State) : Row :=
  let sprites := s.selectedSprites
  ⟨((List.range 160).map (s.pixel sprites)).toArray, by simp⟩

/-- `render_scanline()`: the scanline is stored in `fb[LY]` (R358). -/
def State.renderScanline (s : State) : State :=
  { s with ppu := { s.ppu with fb := s.ppu.fb.setIfInBounds s.ppu.ly.toNat s.scanline } }

/-- `publish_frame()`: a copy of `fb` is appended to `frames` (R366). -/
def State.publishFrame (s : State) : State :=
  { s with ppu := { s.ppu with frames := s.ppu.frames ++ [s.ppu.fb] } }

/-! ## The state machine (R350 to R357) -/

/-- Budget in cycles of a mode (R351), per scanline in vertical-blank. -/
def Mode.budget : Mode → Nat
  | .oamSearch => 80
  | .pixelTransfer => 172
  | .horizontalBlank => 204
  | .verticalBlank => 456

/-- Raise the LCD-status interrupt if bit `k` of `STAT` (3 to 6) enables the condition (R355). -/
def State.statIf (s : State) (k : Nat) : State := if s.ppu.statEn.getLsbD (k - 3) then s.request .lcdStatus else s

/-- `lyc_check()` (R357). -/
def State.lycCheck (s : State) : State := if s.ppu.ly = s.ppu.lyc then s.statIf 6 else s

/-- Enter a mode at its first cycle. -/
def State.enterMode (s : State) (m : Mode) : State := { s with ppu := { s.ppu with dot := 0, mode := m } }

/-- `LY <- v`. -/
def State.setLy (s : State) (v : Byte) : State := { s with ppu := { s.ppu with ly := v } }

/-- End of pixel-transfer: render, then horizontal-blank (R353). -/
def State.endPixelTransfer (s : State) : State := (s.renderScanline.enterMode .horizontalBlank).statIf 3

/-- End of horizontal-blank: the next scanline, or vertical-blank when it is 144 (R353, R356). -/
def State.endHorizontalBlank (s : State) : State :=
  let s1 := s.setLy (s.ppu.ly + 1#8)
  if s1.ppu.ly = 144#8 then
    ((((s1.enterMode .verticalBlank).request .vblank).statIf 4).publishFrame).lycCheck
  else ((s1.enterMode .oamSearch).statIf 5).lycCheck

/-- End of a scanline of vertical-blank: the next one, or scanline 0 after 153 (R353). -/
def State.endVerticalBlankLine (s : State) : State :=
  let s1 := s.setLy (s.ppu.ly + 1#8)
  if s1.ppu.ly = 154#8 then (((s1.setLy 0#8).enterMode .oamSearch).statIf 5).lycCheck
  else (s1.enterMode .verticalBlank).lycCheck

/-- What happens when the budget of the current mode is used up (R353). -/
def State.endOfMode (s : State) : State :=
  match s.ppu.mode with
  | .oamSearch => s.enterMode .pixelTransfer
  | .pixelTransfer => s.endPixelTransfer
  | .horizontalBlank => s.endHorizontalBlank
  | .verticalBlank => s.endVerticalBlankLine

/-- `ppu_tick1()`: one cycle (R353). -/
def State.ppuTick1 (s : State) : State :=
  if s.lcdOn then
    let s1 := { s with ppu := { s.ppu with dot := s.ppu.dot + 1 } }
    if s1.ppu.dot = s1.ppu.mode.budget then s1.endOfMode else s1
  else s

/-- `ppu_tick(n)`: `n` times `ppu_tick1()` (R350). -/
def State.ppuTick (s : State) : Nat → State
  | 0 => s
  | n + 1 => (s.ppuTick n).ppuTick1

end Sys2Proof.Machine
end

