-- ==== Sys2Proof/Machine/Timer.lean ====
section
/-! DEFINITION. The timer controller (spec/60_exceptions.md R316 to R319) and the serial port's advance (R321). -/

namespace Sys2Proof.Machine

/-! ## Timer -/

/-- The period in cycles of one `TIMA` increment, by `TAC[1:0]` (60_exceptions.md R317, 10_state.md R39). -/
def TimerState.period (t : TimerState) : Nat :=
  match t.tac.getLsbD 1, t.tac.getLsbD 0 with
  | false, false => 1024
  | false, true => 16
  | true, false => 64
  | true, true => 256

/-- `timer_increment()` (R318): on overflow reload from `TMA` and raise the timer interrupt. -/
def State.timerIncrement (s : State) : State :=
  if s.timer.tima = 0xFF#8 then ({ s with timer := { s.timer with tima := s.timer.tma } }).request .timer
  else { s with timer := { s.timer with tima := s.timer.tima + 1#8 } }

/-- `n` increments. -/
def State.timerIncrements (s : State) : Nat → State
  | 0 => s
  | n + 1 => (s.timerIncrements n).timerIncrement

/-- `timer_tick(n)` (R316, R317). The `while` loop takes one period off `tima_sub` and increments `TIMA` as long as a
whole period is left: that is quotient many increments, and the remainder stays (log entry 14). -/
def State.timerTick (s : State) (n : Nat) : State :=
  let s1 := { s with timer := { s.timer with divCounter := s.timer.divCounter + BitVec.ofNat 16 n } }
  if s1.timer.tac.getLsbD 2 then
    let sub := s1.timer.timaSub + n
    let period := s1.timer.period
    ({ s1 with timer := { s1.timer with timaSub := sub % period } }).timerIncrements (sub / period)
  else s1

/-! ## Serial port -/

/-- `serial_tick(n)` (R321). -/
def State.serialTick (s : State) (n : Nat) : State :=
  if s.serial.serialCount > 0 then
    if n ≥ s.serial.serialCount then
      ({ s with serial := { s.serial with serialCount := 0, sb := 0xFF#8, scStart := false } }).request .serial
    else { s with serial := { s.serial with serialCount := s.serial.serialCount - n } }
  else s

end Sys2Proof.Machine
end

