-- ==== Sys2Proof/Machine/Synchronizer.lean ====
section
/-! DEFINITION. The CPU step (spec/60_exceptions.md R300) and the master synchronizer (spec/70_reset_and_hazards.md
R410), which advances timer, PPU and serial port by the cycles the CPU step reports. -/

namespace Sys2Proof.Machine

/-- Step 2 of `cpu_step`: the delayed effect of `EI` (60_exceptions.md R300, 10_state.md R16). -/
def State.delayedEnable (s : State) : State :=
  if s.cpu.imePending then { s with cpu := { s.cpu with ime := true, imePending := false } } else s

/-- Step 3 of `cpu_step` in the halted state: no instruction, 4 cycles, wake-up when an enabled interrupt is pending
(R300, R311). -/
def State.haltedIdle (s : State) : State :=
  { s with
    cpu := { s.cpu with halted := if s.pendingEnabled = 0#5 then s.cpu.halted else false }
    cycles := 4 }

/-- `cpu_step()` (R300) where `fault = none`; its return value is in `cycles`. An instruction that sets `fault` ends the
step before the interrupt check (R308). -/
def State.cpuStep (s : State) : Out :=
  if s.cpu.stopped then .next { s with cycles := 0 }
  else
    let s1 := s.delayedEnable
    if s1.cpu.halted then .next s1.haltedIdle.interruptCheck
    else
      match exec s1.fetched s1 with
      | .next t => if t.cpu.fault.isSome then .next t else .next t.interruptCheck
      | .fault r => .fault r
      | .refused r => .refused r

/-- The device advances that follow a CPU step: `timer_tick(c)`, `ppu_tick(c)`, `serial_tick(c)` (R410). -/
def State.advance (s : State) : State :=
  let c := s.cycles
  ((s.timerTick c).ppuTick c).serialTick c

/-- `machine_step()` (R410). It requires `fault = none`; where a fault is set the machine has no step (60_exceptions.md
R303). -/
def State.machineStep (s : State) : Out :=
  match s.cpu.fault with
  | some u => .fault (.unsupportedOpcode u.pc0 u.op)
  | none =>
    match s.cpuStep with
    | .next t => .next t.advance
    | .fault r => .fault r
    | .refused r => .refused r

end Sys2Proof.Machine
end

