-- ==== Sys2Proof/Machine/HostMoves.lean ====
section
/-! DEFINITION. The host moves: what the outside world may do, between two machine steps and at no other time
(spec/70_reset_and_hazards.md R412), and the debugger's operations (spec/60_exceptions.md R330). `step` reads none of
them (log entry 13). -/

namespace Sys2Proof.Machine

/-- The eight buttons (10_state.md R24). -/
inductive Button where
  | right | left | up | down | a | b | select | start
deriving DecidableEq, Repr

/-- The button belongs to the direction group (R24). -/
def Button.isDirection : Button → Bool
  | .right => true
  | .left => true
  | .up => true
  | .down => true
  | .a => false
  | .b => false
  | .select => false
  | .start => false

/-- The line of a button. -/
def Buttons.get (k : Buttons) : Button → Bool
  | .right => k.right
  | .left => k.left
  | .up => k.up
  | .down => k.down
  | .a => k.a
  | .b => k.b
  | .select => k.select
  | .start => k.start

/-- Press or release a button. -/
def Buttons.set (k : Buttons) (key : Button) (pressed : Bool) : Buttons :=
  match key with
  | .right => { k with right := pressed }
  | .left => { k with left := pressed }
  | .up => { k with up := pressed }
  | .down => { k with down := pressed }
  | .a => { k with a := pressed }
  | .b => { k with b := pressed }
  | .select => { k with select := pressed }
  | .start => { k with start := pressed }

/-- The group of a button is selected: `P1.sel[0] = 0` for a direction button, `P1.sel[1] = 0` for an action button
(60_exceptions.md R323). -/
def JoypadState.groupSelected (j : JoypadState) (key : Button) : Bool :=
  if key.isDirection then !j.sel.getLsbD 0 else !j.sel.getLsbD 1

/-- `set_button(b, pressed)` (R322, R323): a released button of a selected group that is pressed raises the joypad
interrupt and ends the stopped state. -/
def State.setButton (s : State) (key : Button) (pressed : Bool) : State :=
  let t := { s with joypad := { s.joypad with buttons := s.joypad.buttons.set key pressed } }
  if pressed = true ∧ s.joypad.buttons.get key = false ∧ s.joypad.groupSelected key = true then
    ({ t with cpu := { t.cpu with stopped := false } }).request .joypad
  else t

/-- `reset()` (70_reset_and_hazards.md R402): the reset state for the same parameters and images; RAM is unspecified
again, so the free contents are those of the next epoch (log entry 4). -/
def State.resetMove (s : State) : State := State.powerOn s.params s.mem.rom s.mem.boot (s.mem.epoch + 1)

/-- The host moves (R412). Reading `frames` and `serial_out` is part of `snapshot`. -/
inductive HostMove where
  | reset
  | setButton (key : Button) (pressed : Bool)
  | snapshot
deriving DecidableEq, Repr

/-- The state after a host move; a snapshot changes nothing (60_exceptions.md R330). -/
def State.move (s : State) : HostMove → State
  | .reset => s.resetMove
  | .setButton key pressed => s.setButton key pressed
  | .snapshot => s

/-- What happens next in a run: a machine step, or a host move between two of them. -/
inductive Event where
  | step
  | move (m : HostMove)
deriving DecidableEq, Repr

/-- A run: events in order, stopping at the first step that has no next state (70_reset_and_hazards.md R411: a state is
determined by the parameters, the RAM contents and the sequence of moves). -/
def State.runEvents (s : State) : List Event → Out
  | [] => .next s
  | .move m :: es => (s.move m).runEvents es
  | .step :: es =>
    match s.machineStep with
    | .next t => t.runEvents es
    | .fault r => .fault r
    | .refused r => .refused r

/-- Run-to-breakpoint for at most `fuel` steps: repeat `machine_step` until `pc` is the breakpoint or `fault` is set
(60_exceptions.md R330). The test comes after each step, so a run that starts with `pc` at the breakpoint leaves it by one
step first: R330 says only "repeats `machine_step` until", and does not say whether the test also comes before the first step.
DESIGN CHOICE (log entry 22), unsafe for claims about a run that starts at its breakpoint or with `fault` set. In the second
case it answers the fault of `machineStep` (log entry 9); one that `fuel` ends answers the state it has reached (log entry 13). -/
def State.runToBreakpoint (s : State) (bp : Word) : Nat → Out
  | 0 => .next s
  | fuel + 1 =>
    match s.machineStep with
    | .next t => if t.cpu.pc = bp ∨ t.cpu.fault.isSome = true then .next t else t.runToBreakpoint bp fuel
    | .fault r => .fault r
    | .refused r => .refused r

end Sys2Proof.Machine
end

