-- ==== Sys2Proof/Machine/Loader.lean ====
section
/-! DEFINITION. How a program comes into the machine: what the external loader fixes from the image header (spec/00_scope.md
R4, R5), and placing an instruction where the next fetch reads it. -/

namespace Sys2Proof.Machine

/-! ## The loader -/

/-- What the loader answers for a cartridge the core never receives (00_scope.md R5). -/
inductive LoadError where
  /-- An unsupported bank-controller variant or a size code outside the tables. Raised by `loadParams`, outside the
  core. Safe: no machine is built. -/
  | invalidCartridge
deriving DecidableEq, Repr

/-- ROM size code at image offset 0x0148: `N_ROM_BANKS = 2 << s` (R5, R4). -/
def RomSize.ofCode (v : Byte) : Option RomSize :=
  match v.toNat with
  | 0 => some .b2
  | 1 => some .b4
  | 2 => some .b8
  | 3 => some .b16
  | 4 => some .b32
  | 5 => some .b64
  | 6 => some .b128
  | _ => none

/-- RAM size code at image offset 0x0149 (R5). -/
def RamSize.ofCode (v : Byte) : Option RamSize :=
  match v.toNat with
  | 0 => some .none
  | 1 => some .k2
  | 2 => some .k8
  | 3 => some .k32
  | _ => none

/-- Cartridge-type byte at image offset 0x0147 (R5); `RAM_BYTES` is 0 for `NoMBC` (R4, log entry 15). -/
def CartKind.ofHeader (type : Byte) (ram : RamSize) : Option CartKind :=
  match type.toNat with
  | 0 => some .noMbc
  | 1 => some (.mbc1 ram)
  | 2 => some (.mbc1 ram)
  | 3 => some (.mbc1 ram)
  | _ => none

/-- The parameters the header of an image declares (R5). -/
def loadParams (type romCode ramCode : Byte) (bootPresent : Bool) : Except LoadError Params :=
  match RomSize.ofCode romCode, RamSize.ofCode ramCode with
  | some rom, some ram =>
    match CartKind.ofHeader type ram with
    | some kind => .ok { cart := kind, romSize := rom, bootPresent := bootPresent }
    | none => .error .invalidCartridge
  | _, _ => .error .invalidCartridge

/-- Build an image from `(offset, byte)` pairs, in canonical form. -/
def imageOf : List Host.Cell → Memory
  | [] => []
  | (k, v) :: cs => if v = Config.imageFill then (imageOf cs).forget k else (imageOf cs).put k v

/-- Power on with a loaded image and an optional bootstrap program (R4, 70_reset_and_hazards.md R400). -/
def State.load (image : List Host.Cell) (boot : Option (List Host.Cell)) : Except LoadError State :=
  let rom := imageOf image
  let at0 (off : Nat) : Byte := (rom.find off).getD Config.imageFill
  match loadParams (at0 0x0147) (at0 0x0148) (at0 0x0149) boot.isSome with
  | .ok p => .ok (State.powerOn p rom (imageOf (boot.getD [])) 0)
  | .error e => .error e

/-! ## Placing an instruction -/

/-- Replace the byte the bus shows at an address that an array owns, `ROM` and `BOOT` included; any other address is left
alone. No bus operation: it stands for loading a program from outside (log entry 12). -/
def State.poke (s : State) (addr : Word) (v : Byte) : State :=
  match s.place addr with
  | .cell r off => s.writeCell r off v
  | _ => s

/-- Place three bytes where the next three fetches read, in a state that is about to fetch: no fault, not stopped, not
halted, no byte read twice. -/
def State.placeFetch (s : State) (b0 b1 b2 : Byte) : State :=
  let s1 := { s with cpu := { s.cpu with fault := none, stopped := false, halted := false, haltBug := false } }
  ((s1.poke s1.cpu.pc b0).poke (s1.cpu.pc + 1#16) b1).poke (s1.cpu.pc + 2#16) b2

end Sys2Proof.Machine
end

