-- ==== Sys2Proof/Machine/Step.lean ====
section
/-! DEFINITION. The step of the machine: `machine_step()` of spec/70_reset_and_hazards.md R410; and placing a numbered
word of the opcode table where the next step fetches it. -/

namespace Sys2Proof.Machine

/-- One machine step (R410). -/
def step (s : State) : Host.Outcome State Fault Refusal := s.machineStep

/-- `s` with the instruction of a numbered table word stored where the next step fetches (log entries 11, 12). -/
def State.withFetchWord (s : State) (nbits w : Nat) : State :=
  let (b0, b1, b2) := tableBytes nbits w
  s.placeFetch b0 b1 b2

end Sys2Proof.Machine
end

