-- ==== Sys2Proof/Safety.lean ====
section
/-! DEFINITION. The terms statements are written in: what an instruction leaves unchanged, what a store does, the states
that have no productive step (spec/70_reset_and_hazards.md R413), and the invariant of the state (spec/10_state.md R31). -/

namespace Sys2Proof.Machine

/-! ## What stays unchanged -/

/-- Everything outside the registers and memory is unchanged: interrupt registers, timer, serial port, joypad, cartridge
registers, overlay, PPU and parameters. -/
structure SameDevices (s t : State) : Prop where
  intr : t.intr = s.intr
  timer : t.timer = s.timer
  serial : t.serial = s.serial
  joypad : t.joypad = s.joypad
  cart : t.cart = s.cart
  bootOverlay : t.bootOverlay = s.bootOverlay
  ppu : t.ppu = s.ppu
  params : t.params = s.params

/-- Every byte of every array, in every bank, reads as before. -/
def SameMemory (s t : State) : Prop := ∀ r off, t.mem.read r off = s.mem.read r off

/-- The CPU's control bits are unchanged, and the fetch has cleared `halt_bug` (60_exceptions.md R301). -/
structure ControlKept (s t : State) : Prop where
  ime : t.cpu.ime = s.cpu.ime
  imePending : t.cpu.imePending = s.cpu.imePending
  halted : t.cpu.halted = s.cpu.halted
  stopped : t.cpu.stopped = s.cpu.stopped
  fault : t.cpu.fault = s.cpu.fault
  haltBug : t.cpu.haltBug = false

/-- Every register that is not listed is unchanged (`sp`, `pc` and the flags are no `Reg8`). -/
def OtherRegsKept (written : List Reg8) (s t : State) : Prop := ∀ r, r ∉ written → t.cpu.reg r = s.cpu.reg r

/-- `pc` is past an instruction of `length` bytes, one byte less under `halt_bug` (60_exceptions.md R302), and the step
reports `cost` cycles. -/
def Advanced (length cost : Nat) (s t : State) : Prop :=
  t.cpu.pc = s.cpu.pc + BitVec.ofNat 16 length - (if s.cpu.haltBug then 1#16 else 0#16) ∧ t.cycles = cost

/-- Nothing is stored: the devices, every byte of memory and what every bus address reads as are unchanged. -/
structure NothingStored (s t : State) : Prop where
  devices : SameDevices s t
  memory : SameMemory s t
  reads : ∀ a, t.read a = s.read a

/-- The frame of an instruction that writes only the listed registers: control bits and `sp` are unchanged and nothing is
stored. It says nothing of the flags. -/
structure RegisterFrame (written : List Reg8) (s t : State) : Prop where
  regs : OtherRegsKept written s t
  control : ControlKept s t
  sp : t.cpu.sp = s.cpu.sp
  stores : NothingStored s t

/-- One byte `v` is stored at bus address `a` and nothing else happens outside the registers, as 20_memory.md R53 and R70
say. Below 0x8000 it is a cartridge control write; a denied or unmapped address takes nothing; a cell takes the byte, and
every other cell and every bus address with another owner reads as before; a register has its "W" action (and no byte of
memory changes, but for the copy that a write to `DMA` makes). -/
structure StoredByte (a : Word) (v : Byte) (s t : State) : Prop where
  control : a.toNat ≤ 0x7FFF →
    SameMemory s t ∧ SameDevices { s with cart := (s.cartWriteControl a.toNat v).cart } t
  denied : 0x7FFF < a.toNat → s.denied a = true → SameMemory s t ∧ SameDevices s t
  unmapped : 0x7FFF < a.toNat → s.denied a = false → s.place a = .unmapped → SameMemory s t ∧ SameDevices s t
  cell : ∀ r off, 0x7FFF < a.toNat → s.denied a = false → s.place a = .cell r off →
    t.mem.read r off = v ∧ t.read a = v ∧ (∀ q o, (q, o) ≠ (r, off) → t.mem.read q o = s.mem.read q o)
      ∧ (∀ b, s.place b ≠ .cell r off → t.read b = s.read b) ∧ SameDevices s t
  ie : 0x7FFF < a.toNat → s.denied a = false → s.place a = .ie →
    SameMemory s t ∧ SameDevices { s with intr := { s.intr with enableMask := v } } t
  io : ∀ r, 0x7FFF < a.toNat → s.denied a = false → s.place a = .io r →
    SameDevices (s.ioWrite r v) t ∧ SameMemory (s.ioWrite r v) t ∧ (r ≠ .dma → SameMemory s t)

/-- A store changes no register, no flag, neither `sp` nor a control bit. -/
structure CpuKept (s t : State) : Prop where
  regs : OtherRegsKept [] s t
  flags : t.cpu.flags = s.cpu.flags
  sp : t.cpu.sp = s.cpu.sp
  control : ControlKept s t

/-- The instruction loads `v` into the register `dst` and does nothing else. -/
structure Loaded (dst : Reg8) (v : Byte) (length cost : Nat) (s t : State) : Prop where
  advanced : Advanced length cost s t
  value : t.cpu.reg dst = v
  flags : t.cpu.flags = s.cpu.flags
  frame : RegisterFrame [dst] s t

/-- The instruction stores `v` at bus address `a` and does nothing else. -/
structure Stored (a : Word) (v : Byte) (length cost : Nat) (s t : State) : Prop where
  advanced : Advanced length cost s t
  store : StoredByte a v s t
  cpu : CpuKept s t

/-- The instruction sets `A` and the four flags from values and does nothing else. -/
structure SetsA (a : Byte) (f : Flags) (length cost : Nat) (s t : State) : Prop where
  advanced : Advanced length cost s t
  value : t.cpu.a = a
  flags : t.cpu.flags = f
  frame : RegisterFrame [.a] s t

/-- The registers a pair is made of. -/
def pairRegs : Pair → List Reg8
  | .bc => [.b, .c]
  | .de => [.d, .e]
  | .hl => [.h, .l]
  | .sp => []

/-- The registers of a stack pair that are no flags. -/
def stackPairRegs : StackPair → List Reg8
  | .bc => [.b, .c]
  | .de => [.d, .e]
  | .hl => [.h, .l]
  | .af => [.a]

/-- The instruction writes the pair `p` and does nothing else. -/
structure SetsPair (p : Pair) (v : Word) (length cost : Nat) (s t : State) : Prop where
  advanced : Advanced length cost s t
  value : t.cpu.pair p = v
  sp : p ≠ .sp → t.cpu.sp = s.cpu.sp
  regs : OtherRegsKept (pairRegs p) s t
  control : ControlKept s t
  stores : NothingStored s t

/-- `push16(v)` (00_scope.md R8): the high byte is stored at `sp-1`, then the low byte at `sp-2`, `sp` is two lower, and
registers, flags and control bits are kept. It says nothing of `pc`. -/
structure Pushed (v : Word) (s t : State) : Prop where
  stores : ∃ m, StoredByte (s.cpu.sp - 1#16) (v.extractLsb' 8 8) s m
    ∧ StoredByte (s.cpu.sp - 2#16) (v.extractLsb' 0 8) m t
  sp : t.cpu.sp = s.cpu.sp - 2#16
  regs : OtherRegsKept [] s t
  flags : t.cpu.flags = s.cpu.flags
  control : ControlKept s t

/-- Nothing but `pc` changes. -/
structure Jumped (target : Word) (cost : Nat) (s t : State) : Prop where
  pc : t.cpu.pc = target
  cycles : t.cycles = cost
  flags : t.cpu.flags = s.cpu.flags
  frame : RegisterFrame [] s t

/-- The link of a call and the return address of a push: the address after `length` bytes, one less under `halt_bug`. -/
def State.after (s : State) (length : Nat) : Word :=
  s.cpu.pc + BitVec.ofNat 16 length - (if s.cpu.haltBug then 1#16 else 0#16)

/-! ## Plain memory -/

/-- An address that the CPU may use as plain storage now: above the cartridge control ranges, owned by a cell of an array,
not denied by the gate. -/
def State.plainAt (s : State) (a : Word) : Prop :=
  0x7FFF < a.toNat ∧ s.denied a = false ∧ ∃ r off, s.place a = .cell r off

/-! ## States without a productive step (70_reset_and_hazards.md R413) -/

/-- `fault` is set: no step at all. -/
def State.faulted (s : State) : Prop := s.cpu.fault ≠ none

/-- Steps return 0 and change nothing until a button press. -/
def State.isStopped (s : State) : Prop := s.cpu.fault = none ∧ s.cpu.stopped = true

/-- Steps cost 4 cycles forever: the CPU is halted and no interrupt is enabled. -/
def State.haltedForever (s : State) : Prop :=
  s.cpu.fault = none ∧ s.cpu.stopped = false ∧ s.cpu.halted = true ∧ s.intr.enableMask.extractLsb' 0 5 = 0#5

/-- The next step fetches and executes an instruction. -/
def State.running (s : State) : Prop := s.cpu.fault = none ∧ s.cpu.stopped = false ∧ s.cpu.halted = false

/-- A step is safe when it has a next state. -/
def State.stepSafe (s : State) : Prop := ∃ t, step s = .next t

/-! ## The rules of the spec in closed form, beside the model's own functions -/

/-- The bytes of a two-operand instruction (41_alu8.md R170, encoding column). -/
def aluBytes (op : AluOp) : Src8 → List Byte
  | .reg r => [0b10#2 ++ op.code ++ r.code]
  | .atHL => [0b10#2 ++ op.code ++ 0b110#3]
  | .imm n => [0b11#2 ++ op.code ++ 0b110#3, n]

/-- Length of a two-operand instruction (R170). -/
def aluLength : Src8 → Nat
  | .reg _ => 1
  | .atHL => 1
  | .imm _ => 2

/-- Cost of a two-operand instruction (R170). -/
def aluCost : Src8 → Nat
  | .reg _ => 4
  | .atHL => 8
  | .imm _ => 8

/-- Result and carry of the rotates and shifts (43_rotate_shift_bit.md R215 to R222) as shifts of words. -/
def rotated (op : RotOp) (v : Byte) (c : Bool) : Byte × Bool :=
  match op with
  | .rlc => (v.rotateLeft 1, v.getLsbD 7)
  | .rrc => (v.rotateRight 1, v.getLsbD 0)
  | .rl => (v <<< 1 ||| (if c then 1#8 else 0#8), v.getLsbD 7)
  | .rr => (v >>> 1 ||| (if c then 0x80#8 else 0#8), v.getLsbD 0)
  | .sla => (v <<< 1, v.getLsbD 7)
  | .sra => (v.sshiftRight 1, v.getLsbD 0)
  | .swap => (v.rotateLeft 4, false)
  | .srl => (v >>> 1, v.getLsbD 0)

/-- The decimal value of a packed binary-coded decimal byte. -/
def decimal (v : Byte) : Nat := v.toNat / 16 * 10 + v.toNat % 16

/-- Both digits of a byte are decimal. -/
def isDecimal (v : Byte) : Prop := v.toNat / 16 ≤ 9 ∧ v.toNat % 16 ≤ 9

/-- `TIMA` after `k` increments, and whether it overflowed on the way (60_exceptions.md R318). -/
def timaAfter (tima tma : Byte) (k : Nat) : Byte × Bool :=
  let room := 256 - tima.toNat
  if k < room then (tima + BitVec.ofNat 8 k, false)
  else (BitVec.ofNat 8 (tma.toNat + (k - room) % (256 - tma.toNat)), true)

/-- Mode, `LY` and `dot` at cycle `k` of a frame (61_ppu.md R354). -/
def framePosition (k : Nat) : Mode × Nat × Nat :=
  let line := k / 456
  let at' := k % 456
  if 144 ≤ line then (.verticalBlank, line, at')
  else if at' < 80 then (.oamSearch, line, at')
  else if at' < 252 then (.pixelTransfer, line, at' - 80)
  else (.horizontalBlank, line, at' - 252)

/-- The cycle of the frame a PPU is at (61_ppu.md R354). -/
def PpuState.frameCycle (p : PpuState) : Nat :=
  match p.mode with
  | .oamSearch => 456 * p.ly.toNat + p.dot
  | .pixelTransfer => 456 * p.ly.toNat + 80 + p.dot
  | .horizontalBlank => 456 * p.ly.toNat + 252 + p.dot
  | .verticalBlank => 456 * p.ly.toNat + p.dot

/-! ## The invariant -/

/-- The timer's part: `tima_sub` below 1024 (10_state.md R22), and below the period while the timer counts
(60_exceptions.md R317). -/
def TimerState.ok (t : TimerState) : Prop := t.timaSub < 1024 ∧ (t.tac.getLsbD 2 = true → t.timaSub < t.period)

/-- The PPU's part (10_state.md R31, 61_ppu.md R352, R353). -/
structure PpuState.Ok (p : PpuState) : Prop where
  ly : p.ly.toNat ≤ 153
  dot : p.dot < p.mode.budget
  vblank : p.lcdc.getLsbD 7 = true → (p.mode = .verticalBlank ↔ 144 ≤ p.ly.toNat)
  off : p.lcdc.getLsbD 7 = false → p.mode = .horizontalBlank ∧ p.ly = 0#8 ∧ p.dot = 0

/-- The cartridge's part: on `MBC1` the low bits of the ROM bank are never 0 (20_memory.md R64), on `NoMBC` the fields keep
their reset values (R62). -/
def CartState.ok (k : CartState) : CartKind → Prop
  | .noMbc => k = { romBank := 1#7, ramBank := 0#2, ramEnable := false, bankMode := false }
  | .mbc1 _ => k.romBank.extractLsb' 0 5 ≠ 0#5

/-- What every rule preserves (10_state.md R31): the stated bounds and relations between fields, and that memory is in
canonical form and lists only cells that exist. -/
structure State.Inv (s : State) : Prop where
  memWf : s.mem.wf = true
  memWithin : s.mem.within s.params = true
  timer : s.timer.ok
  serial : s.serial.serialCount ≤ 4096
  ppu : s.ppu.Ok
  cart : s.cart.ok s.params.cart
  overlay : s.bootOverlay = true → s.params.bootPresent = true

end Sys2Proof.Machine
end

