-- ==== Sys2Proof/Certificates/Slice0/Obligations.lean ====
section
/-! DEFINITION. The statements for the provers, by the files of spec/: encoding, the step, loads, arithmetic, rotates and
bits, control transfer, system, interrupts, the bus, the devices, reset, the invariant. -/

open Sys2Proof Sys2Proof.Machine

/-! ## Encoding (30_encoding.md) -/

/-- Words written out from the spec's encodings decode to the instructions they stand for, one or more per family; too few
bytes are refused by name. -/
def Obligations.KnownWordsDecode : Prop :=
  decode [0x00#8] = .ok (.nop, [])
  ∧ decode [0x10#8, 0x00#8] = .ok (.stop 0x00#8, [])
  ∧ decode [0x47#8] = .ok (.ld_B_A, [])
  ∧ decode [0x3E#8, 0x42#8] = .ok (.ld_A_n 0x42#8, [])
  ∧ decode [0xFA#8, 0x44#8, 0xFF#8] = .ok (.ld_A_atNN 0xFF44#16, [])
  ∧ decode [0xE0#8, 0x04#8, 0x99#8] = .ok (.ldh_atN_A 0x04#8, [0x99#8])
  ∧ decode [0x31#8, 0xFE#8, 0xFF#8] = .ok (.ld_SP_nn 0xFFFE#16, [])
  ∧ decode [0xF8#8, 0x02#8] = .ok (.ld_HL_SPe 0x02#8, [])
  ∧ decode [0xC6#8, 0xC6#8] = .ok (.add_A_n 0xC6#8, [])
  ∧ decode [0x9E#8] = .ok (.sbc_A_atHL, [])
  ∧ decode [0x34#8] = .ok (.inc_atHL, [])
  ∧ decode [0x27#8] = .ok (.daa, [])
  ∧ decode [0x09#8] = .ok (.add_HL_BC, [])
  ∧ decode [0x1F#8] = .ok (.rra, [])
  ∧ decode [0xCB#8, 0x37#8] = .ok (.swap_A, [])
  ∧ decode [0xCB#8, 0x65#8] = .ok (.bit_4_L, [])
  ∧ decode [0xCB#8, 0xCB#8] = .ok (.set_1_E, [])
  ∧ decode [0xC3#8, 0x50#8, 0x01#8] = .ok (.jp_nn 0x0150#16, [])
  ∧ decode [0x20#8, 0xFD#8] = .ok (.jr_NZ_e 0xFD#8, [])
  ∧ decode [0xEF#8] = .ok (.rst_28, [])
  ∧ decode [0xD9#8] = .ok (.reti, [])
  ∧ decode [0x76#8] = .ok (.halt, [])
  ∧ decode [0xFB#8] = .ok (.ei, [])
  ∧ decode [0xDD#8] = .ok (.illegal 0xDD#8, [])
  ∧ decode [] = .error .noBytes
  ∧ decode [0xC3#8, 0x50#8] = .error .truncated

/-- Decoding an encoded instruction gives it back, with every operand at every value, and whatever decodes is the encoding of
what it decodes to: the decoder, written from the field tables R105 and R108, and the encoder, written from the opcode
table, agree. -/
def Obligations.DecodeAndEncodeAgree : Prop :=
  (∀ (i : Instr) (rest : List Byte), WellFormed i → decode (encode i ++ rest) = .ok (i, rest))
  ∧ ∀ (bytes : List Byte) (i : Instr) (rest : List Byte),
    decode bytes = .ok (i, rest) → WellFormed i ∧ bytes = encode i ++ rest

/-- The decoder is total, and byte 0 alone gives the length and says whether the byte is unassigned (R116, R107, R113). -/
def Obligations.DecoderIsTotal : Prop :=
  ∀ (b0 : Byte) (rest : List Byte), 2 ≤ rest.length →
    ∃ i, decode (b0 :: rest) = .ok (i, (b0 :: rest).drop (if b0 = 0xCB#8 then 2 else lengthGrid.getD b0.toNat 0))
      ∧ (if b0 ∈ unassignedBytes then i = .illegal b0 else ∀ op, i ≠ .illegal op)

/-! ## The CPU step (60_exceptions.md) -/

/-- When the bytes at `pc` decode to `i`, a step of a running machine takes the delayed effect of `EI`, is `exec` of `i`, then
makes the interrupt check (unless the fatal fault was taken) and advances the devices (R300, R410). -/
def Obligations.StepRunsTheDecodedInstruction : Prop :=
  ∀ (s : State) (i : Instr) (rest : List Byte), s.running → s.cpu.haltBug = false →
    decode [s.read s.cpu.pc, s.read (s.cpu.pc + 1#16), s.read (s.cpu.pc + 2#16)] = .ok (i, rest) →
      WellFormed i ∧ ∃ t, exec i s.delayedEnable = .next t
        ∧ step s = .next (if t.cpu.fault.isSome then t.advance else t.interruptCheck.advance)

/-- Under `halt_bug` the opcode byte is read again as the byte after it, and `pc` ends one byte lower (R301). -/
def Obligations.HaltBugReadsTheByteTwice : Prop :=
  ∀ (s : State) (i : Instr) (rest : List Byte), s.running → s.cpu.haltBug = true →
    decode [s.read s.cpu.pc, s.read s.cpu.pc, s.read (s.cpu.pc + 1#16)] = .ok (i, rest) →
      ∃ t, exec i s.delayedEnable = .next t
        ∧ step s = .next (if t.cpu.fault.isSome then t.advance else t.interruptCheck.advance)
        ∧ (i ≠ .halt → t.cpu.haltBug = false)
        ∧ ((∀ op, i ≠ .illegal op) → i.condition = none → i.alwaysTransfers = false →
            t.cpu.pc = s.cpu.pc + BitVec.ofNat 16 i.length - 1#16)

/-- A halted step executes no instruction and costs 4 cycles; an enabled pending interrupt wakes the CPU whatever `IME` is, and
with `IME = 1` it is dispatched in the same step, which then costs 24 (R311, R300 step 3). -/
def Obligations.HaltedStep : Prop :=
  ∀ s : State, s.cpu.fault = none → s.cpu.stopped = false → s.cpu.halted = true →
    (s.pendingEnabled = 0#5 → step s = .next (State.advance { s.delayedEnable with cycles := 4 }))
    ∧ (s.pendingEnabled ≠ 0#5 → s.cpu.ime = false → s.cpu.imePending = false →
        step s = .next (State.advance { s with cpu := { s.cpu with halted := false }, cycles := 4 }))
    ∧ (s.pendingEnabled ≠ 0#5 → (s.cpu.ime = true ∨ s.cpu.imePending = true) →
        ∃ n, s.selected = some n
          ∧ step s = .next (State.advance { s.delayedEnable.takeInterrupt n with cycles := 24 }))

/-- A stopped step reports 0 cycles and changes nothing else (R315, 70_reset_and_hazards.md R410); a step in a state whose
`fault` is set has no next state (R303; that it answers the model's fault is log entry 9). -/
def Obligations.StoppedAndFaultedMachines : Prop :=
  (∀ s : State, s.isStopped → s.timer.ok → step s = .next { s with cycles := 0 })
  ∧ ∀ (s : State) (u : UnsupportedOpcode), s.cpu.fault = some u → step s = .fault (.unsupportedOpcode u.pc0 u.op)

/-- An unassigned byte records its address and itself, leaves `pc` at it, costs 0 and changes nothing else
(45_system.md R268). That `halt_bug` is cleared and a delayed `EI` still takes effect is the model's reading (log entry 8). -/
def Obligations.UnassignedByteRaisesTheFault : Prop :=
  ∀ (op : Byte) (s : State), op ∈ unassignedBytes →
    encode (.illegal op) = [op]
    ∧ exec (.illegal op) s =
        .next { s with cpu := { s.cpu with fault := some ⟨s.cpu.pc, op⟩, haltBug := false }, cycles := 0 }
    ∧ (s.running → s.timer.ok → s.read s.cpu.pc = op →
        step s = .next { s.delayedEnable with
          cpu := { s.delayedEnable.cpu with fault := some ⟨s.cpu.pc, op⟩, haltBug := false }, cycles := 0 })

/-- Every assigned instruction has a next state, costs what the cost grids say, raises no fault and, when it does not transfer
control, advances `pc` by its length, one less under `halt_bug` (30_encoding.md R107, R110; R302). -/
def Obligations.EveryInstructionRuns : Prop :=
  ∀ (i : Instr) (s : State), (∀ op, i ≠ .illegal op) →
    ∃ t, exec i s = .next t
      ∧ t.cycles = i.tableCost (i.condition.all s.cpu.flags.test)
      ∧ t.cpu.fault = s.cpu.fault
      ∧ t.params = s.params
      ∧ (i.alwaysTransfers = false → i.condition.any s.cpu.flags.test = false →
          t.cpu.pc = s.cpu.pc + BitVec.ofNat 16 i.length - (if s.cpu.haltBug then 1#16 else 0#16))

/-- A step of a running machine whose interrupt check does not dispatch advances `pc` by the length of the instruction outside
taken control transfers, and reports its cost exactly (R302). -/
def Obligations.StepAdvancesByLengthAndCost : Prop :=
  ∀ s t : State, s.running → (∀ op, s.fetched ≠ .illegal op) →
    exec s.fetched s.delayedEnable = .next t → (t.cpu.ime = false ∨ t.pendingEnabled = 0#5) →
      ∃ u, step s = .next u
        ∧ u.cycles = s.fetched.tableCost (s.fetched.condition.all s.cpu.flags.test)
        ∧ (s.fetched.alwaysTransfers = false → s.fetched.condition.any s.cpu.flags.test = false →
            u.cpu.pc = s.cpu.pc + BitVec.ofNat 16 s.fetched.length - (if s.cpu.haltBug then 1#16 else 0#16))

/-! ## Loads, stores, stack (40_loads.md) -/

/-- The loads of one register: `LD r,r'`, `LD r,n`, `LD r,(HL)`, and of `A` from `(BC)`, `(DE)`, `(nn)`, `(C)`, `(n)`
(R130, R131, R132, R135, R136, R139, R141, R143). -/
def Obligations.LoadRegister : Prop :=
  ∀ (dst src : Reg8) (nn : Word) (n : Byte) (s : State),
    (encode (Instr.ldRegReg dst src) = [0b01#2 ++ dst.code ++ src.code]
      ∧ ∃ t, exec (Instr.ldRegReg dst src) s = .next t ∧ Loaded dst (s.cpu.reg src) 1 4 s t)
    ∧ (encode (Instr.ldRegImm dst n) = [0b00#2 ++ dst.code ++ 0b110#3, n]
      ∧ ∃ t, exec (Instr.ldRegImm dst n) s = .next t ∧ Loaded dst n 2 8 s t)
    ∧ (encode (Instr.ldRegMem dst) = [0b01#2 ++ dst.code ++ 0b110#3]
      ∧ ∃ t, exec (Instr.ldRegMem dst) s = .next t ∧ Loaded dst (s.read (s.cpu.h ++ s.cpu.l)) 1 8 s t)
    ∧ (encode .ld_A_atBC = [0x0A#8]
      ∧ ∃ t, exec .ld_A_atBC s = .next t ∧ Loaded .a (s.read (s.cpu.b ++ s.cpu.c)) 1 8 s t)
    ∧ (encode .ld_A_atDE = [0x1A#8]
      ∧ ∃ t, exec .ld_A_atDE s = .next t ∧ Loaded .a (s.read (s.cpu.d ++ s.cpu.e)) 1 8 s t)
    ∧ (encode (.ld_A_atNN nn) = [0xFA#8, nn.extractLsb' 0 8, nn.extractLsb' 8 8]
      ∧ ∃ t, exec (.ld_A_atNN nn) s = .next t ∧ Loaded .a (s.read nn) 3 16 s t)
    ∧ (encode .ldh_A_atC = [0xF2#8]
      ∧ ∃ t, exec .ldh_A_atC s = .next t ∧ Loaded .a (s.read (0xFF00#16 + s.cpu.c.setWidth 16)) 1 8 s t)
    ∧ (encode (.ldh_A_atN n) = [0xF0#8, n]
      ∧ ∃ t, exec (.ldh_A_atN n) s = .next t ∧ Loaded .a (s.read (0xFF00#16 + n.setWidth 16)) 2 12 s t)

/-- The stores of a byte: `LD (HL),r`, `LD (HL),n`, `LD (BC),A`, `LD (DE),A`, `LD (nn),A`, `LDH (C),A`, `LDH (n),A`
(R133, R134, R137, R138, R140, R142, R144). -/
def Obligations.StoreByte : Prop :=
  ∀ (src : Reg8) (nn : Word) (n : Byte) (s : State),
    (encode (Instr.ldMemReg src) = [0b01110#5 ++ src.code]
      ∧ ∃ t, exec (Instr.ldMemReg src) s = .next t ∧ Stored (s.cpu.h ++ s.cpu.l) (s.cpu.reg src) 1 8 s t)
    ∧ (encode (.ld_atHL_n n) = [0x36#8, n]
      ∧ ∃ t, exec (.ld_atHL_n n) s = .next t ∧ Stored (s.cpu.h ++ s.cpu.l) n 2 12 s t)
    ∧ (encode .ld_atBC_A = [0x02#8]
      ∧ ∃ t, exec .ld_atBC_A s = .next t ∧ Stored (s.cpu.b ++ s.cpu.c) s.cpu.a 1 8 s t)
    ∧ (encode .ld_atDE_A = [0x12#8]
      ∧ ∃ t, exec .ld_atDE_A s = .next t ∧ Stored (s.cpu.d ++ s.cpu.e) s.cpu.a 1 8 s t)
    ∧ (encode (.ld_atNN_A nn) = [0xEA#8, nn.extractLsb' 0 8, nn.extractLsb' 8 8]
      ∧ ∃ t, exec (.ld_atNN_A nn) s = .next t ∧ Stored nn s.cpu.a 3 16 s t)
    ∧ (encode .ldh_atC_A = [0xE2#8]
      ∧ ∃ t, exec .ldh_atC_A s = .next t ∧ Stored (0xFF00#16 + s.cpu.c.setWidth 16) s.cpu.a 1 8 s t)
    ∧ (encode (.ldh_atN_A n) = [0xE0#8, n]
      ∧ ∃ t, exec (.ldh_atN_A n) s = .next t ∧ Stored (0xFF00#16 + n.setWidth 16) s.cpu.a 2 12 s t)

/-- Loads and stores at `HL` that then step `HL` (R145 to R148). -/
def Obligations.LoadStoreStepHl : Prop :=
  (encode .ld_A_atHLd = [0x3A#8] ∧ encode .ld_atHLd_A = [0x32#8]
    ∧ encode .ld_A_atHLi = [0x2A#8] ∧ encode .ld_atHLi_A = [0x22#8])
  ∧ (∀ p ∈ [(Instr.ld_A_atHLd, 0xFFFF#16), (Instr.ld_A_atHLi, 1#16)], ∀ s : State,
    ∃ t, exec p.1 s = .next t ∧ Advanced 1 8 s t ∧ t.cpu.a = s.read (s.cpu.h ++ s.cpu.l)
      ∧ t.cpu.h ++ t.cpu.l = s.cpu.h ++ s.cpu.l + p.2
      ∧ t.cpu.flags = s.cpu.flags ∧ RegisterFrame [.a, .h, .l] s t)
  ∧ ∀ p ∈ [(Instr.ld_atHLd_A, 0xFFFF#16), (Instr.ld_atHLi_A, 1#16)], ∀ s : State,
    ∃ t, exec p.1 s = .next t ∧ Advanced 1 8 s t ∧ StoredByte (s.cpu.h ++ s.cpu.l) s.cpu.a s t
      ∧ t.cpu.h ++ t.cpu.l = s.cpu.h ++ s.cpu.l + p.2
      ∧ t.cpu.flags = s.cpu.flags ∧ t.cpu.sp = s.cpu.sp ∧ OtherRegsKept [.h, .l] s t ∧ ControlKept s t

/-- `LD rr,nn`, `LD (nn),SP` and `LD SP,HL` (R149, R150, R151). -/
def Obligations.LoadPair : Prop :=
  (∀ (p : Pair) (nn : Word) (s : State),
    encode (Instr.ldPairImm p nn) = [0b00#2 ++ p.code ++ 0b0001#4, nn.extractLsb' 0 8, nn.extractLsb' 8 8]
    ∧ ∃ t, exec (Instr.ldPairImm p nn) s = .next t ∧ SetsPair p nn 3 12 s t ∧ t.cpu.flags = s.cpu.flags)
  ∧ (∀ (nn : Word) (s : State),
    encode (.ld_atNN_SP nn) = [0x08#8, nn.extractLsb' 0 8, nn.extractLsb' 8 8]
    ∧ ∃ t, exec (.ld_atNN_SP nn) s = .next t ∧ Advanced 3 20 s t ∧ CpuKept s t
      ∧ ∃ m, StoredByte nn (s.cpu.sp.extractLsb' 0 8) s m
        ∧ StoredByte (nn + 1#16) (s.cpu.sp.extractLsb' 8 8) m t)
  ∧ ∀ s : State,
    encode .ld_SP_HL = [0xF9#8]
    ∧ ∃ t, exec .ld_SP_HL s = .next t ∧ SetsPair .sp (s.cpu.h ++ s.cpu.l) 1 8 s t ∧ t.cpu.flags = s.cpu.flags

/-- `PUSH qq` (R152); `F` is pushed with bits 3:0 zero. -/
def Obligations.PushPair : Prop :=
  ∀ (p : StackPair) (s : State),
    encode (Instr.push p) = [0b11#2 ++ p.code ++ 0b0101#4]
    ∧ (∃ t, exec (Instr.push p) s = .next t ∧ Advanced 1 16 s t ∧ Pushed (s.cpu.stackPair p) s t)
    ∧ s.cpu.stackPair .af = s.cpu.a ++ (BitVec.ofBool s.cpu.flags.z ++ BitVec.ofBool s.cpu.flags.n
        ++ BitVec.ofBool s.cpu.flags.h ++ BitVec.ofBool s.cpu.flags.c ++ 0b0000#4 : Byte)

/-- `POP qq` (R153): only `POP AF` writes flags, from bits 7 to 4 of the low byte. -/
def Obligations.PopPair : Prop :=
  ∀ (p : StackPair) (s : State),
    encode (Instr.pop p) = [0b11#2 ++ p.code ++ 0b0001#4]
    ∧ ∃ t, exec (Instr.pop p) s = .next t ∧ Advanced 1 12 s t
      ∧ t.cpu.sp = s.cpu.sp + 2#16
      ∧ (p ≠ .af → t.cpu.stackPair p = s.read (s.cpu.sp + 1#16) ++ s.read s.cpu.sp ∧ t.cpu.flags = s.cpu.flags)
      ∧ (p = .af → t.cpu.a = s.read (s.cpu.sp + 1#16)
          ∧ t.cpu.flags.z = (s.read s.cpu.sp).getLsbD 7 ∧ t.cpu.flags.n = (s.read s.cpu.sp).getLsbD 6
          ∧ t.cpu.flags.h = (s.read s.cpu.sp).getLsbD 5 ∧ t.cpu.flags.c = (s.read s.cpu.sp).getLsbD 4)
      ∧ OtherRegsKept (stackPairRegs p) s t ∧ ControlKept s t ∧ NothingStored s t

/-- On a stack in plain memory a pair that is pushed and popped, into the same or another pair, comes back with `sp` where it
was, and a call followed by a return comes back to the instruction after the call. -/
def Obligations.StackGivesBackWhatWasPushed : Prop :=
  ∀ s : State, s.plainAt (s.cpu.sp - 1#16) → s.plainAt (s.cpu.sp - 2#16) →
    (∀ p q : StackPair, ∃ t u, exec (Instr.push p) s = .next t ∧ exec (Instr.pop q) t = .next u
      ∧ u.cpu.sp = s.cpu.sp
      ∧ (q ≠ .af → u.cpu.stackPair q = s.cpu.stackPair p)
      ∧ (p = q → u.cpu.stackPair q = s.cpu.stackPair p))
    ∧ ∀ nn : Word, ∃ t u, exec (.call_nn nn) s = .next t ∧ exec .ret t = .next u
      ∧ u.cpu.pc = s.after 3 ∧ u.cpu.sp = s.cpu.sp ∧ OtherRegsKept [] s u ∧ u.cpu.flags = s.cpu.flags

/-- `LD HL,SP+e` (R154) and `ADD SP,e` (42_alu16.md R203): the flags are those of the unsigned addition of the raw byte to the
low byte of `sp`. -/
def Obligations.StackPointerDisplacement : Prop :=
  ∀ (e : Byte) (s : State),
    let sum : Word := BitVec.ofInt 16 (s.cpu.sp.toNat + e.toInt)
    let f : Flags :=
      { z := false, n := false
        h := decide (s.cpu.sp.toNat % 16 + e.toNat % 16 > 0x0F), c := decide (s.cpu.sp.toNat % 256 + e.toNat > 0xFF) }
    (encode (.ld_HL_SPe e) = [0xF8#8, e]
      ∧ ∃ t, exec (.ld_HL_SPe e) s = .next t ∧ SetsPair .hl sum 2 12 s t ∧ t.cpu.flags = f)
    ∧ (encode (.add_SP_e e) = [0xE8#8, e]
      ∧ ∃ t, exec (.add_SP_e e) s = .next t ∧ SetsPair .sp sum 2 16 s t ∧ t.cpu.flags = f)

/-! ## Eight-bit arithmetic and logic (41_alu8.md) -/

/-- `ADD A,s` and `ADC A,s` in their three forms (R171, R172). -/
def Obligations.AddAndAddWithCarry : Prop :=
  ∀ (x : Src8) (s : State),
    let a := s.cpu.a.toNat
    let v := (s.src x).toNat
    let c : Nat := if s.cpu.flags.c then 1 else 0
    (encode (Instr.alu .add x) = aluBytes .add x
      ∧ ∃ t, exec (Instr.alu .add x) s = .next t
        ∧ SetsA (BitVec.ofNat 8 (a + v))
          { z := decide ((a + v) % 256 = 0), n := false, h := decide (a % 16 + v % 16 > 0x0F), c := decide (a + v > 0xFF) }
          (aluLength x) (aluCost x) s t)
    ∧ (encode (Instr.alu .adc x) = aluBytes .adc x
      ∧ ∃ t, exec (Instr.alu .adc x) s = .next t
        ∧ SetsA (BitVec.ofNat 8 (a + v + c))
          { z := decide ((a + v + c) % 256 = 0), n := false, h := decide (a % 16 + v % 16 + c > 0x0F)
            c := decide (a + v + c > 0xFF) }
          (aluLength x) (aluCost x) s t)

/-- `SUB s`, `SBC A,s` and `CP s` in their three forms (R173, R174, R178); the comparisons are on unbounded integers. -/
def Obligations.SubtractAndCompare : Prop :=
  ∀ (x : Src8) (s : State),
    let a := s.cpu.a.toNat
    let v := (s.src x).toNat
    let c : Nat := if s.cpu.flags.c then 1 else 0
    (encode (Instr.alu .sub x) = aluBytes .sub x
      ∧ ∃ t, exec (Instr.alu .sub x) s = .next t
        ∧ SetsA (BitVec.ofInt 8 ((a : Int) - v))
          { z := decide (a = v), n := true, h := decide (a % 16 < v % 16), c := decide (a < v) }
          (aluLength x) (aluCost x) s t)
    ∧ (encode (Instr.alu .sbc x) = aluBytes .sbc x
      ∧ ∃ t, exec (Instr.alu .sbc x) s = .next t
        ∧ SetsA (BitVec.ofInt 8 ((a : Int) - v - c))
          { z := decide (((a : Int) - v - c) % 256 = 0), n := true, h := decide (a % 16 < v % 16 + c)
            c := decide (a < v + c) }
          (aluLength x) (aluCost x) s t)
    ∧ (encode (Instr.alu .cp x) = aluBytes .cp x
      ∧ ∃ t, exec (Instr.alu .cp x) s = .next t
        ∧ SetsA s.cpu.a { z := decide (a = v), n := true, h := decide (a % 16 < v % 16), c := decide (a < v) }
          (aluLength x) (aluCost x) s t)

/-- `AND s`, `XOR s` and `OR s` in their three forms (R175, R176, R177). -/
def Obligations.Logic : Prop :=
  ∀ (x : Src8) (s : State),
    let a := s.cpu.a
    let v := s.src x
    (encode (Instr.alu .and x) = aluBytes .and x
      ∧ ∃ t, exec (Instr.alu .and x) s = .next t
        ∧ SetsA (a &&& v) { z := decide (a &&& v = 0#8), n := false, h := true, c := false } (aluLength x) (aluCost x) s t)
    ∧ (encode (Instr.alu .xor x) = aluBytes .xor x
      ∧ ∃ t, exec (Instr.alu .xor x) s = .next t
        ∧ SetsA (a ^^^ v) { z := decide (a = v), n := false, h := false, c := false } (aluLength x) (aluCost x) s t)
    ∧ (encode (Instr.alu .or x) = aluBytes .or x
      ∧ ∃ t, exec (Instr.alu .or x) s = .next t
        ∧ SetsA (a ||| v) { z := decide (a = 0#8 ∧ v = 0#8), n := false, h := false, c := false }
          (aluLength x) (aluCost x) s t)

/-- `INC` and `DEC` of a register and of the byte at `HL` (R179 to R182); `fC` is unchanged. -/
def Obligations.IncrementAndDecrement : Prop :=
  ∀ s : State,
    let up (v : Byte) : Flags :=
      { z := decide (v = 0xFF#8), n := false, h := decide (v.toNat % 16 = 0xF), c := s.cpu.flags.c }
    let down (v : Byte) : Flags :=
      { z := decide (v = 0x01#8), n := true, h := decide (v.toNat % 16 = 0x0), c := s.cpu.flags.c }
    (∀ r : Reg8,
      encode (Instr.inc (.reg r)) = [0b00#2 ++ r.code ++ 0b100#3]
      ∧ encode (Instr.dec (.reg r)) = [0b00#2 ++ r.code ++ 0b101#3]
      ∧ (∃ t, exec (Instr.inc (.reg r)) s = .next t ∧ Advanced 1 4 s t
        ∧ t.cpu.reg r = s.cpu.reg r + 1#8 ∧ t.cpu.flags = up (s.cpu.reg r) ∧ RegisterFrame [r] s t)
      ∧ ∃ t, exec (Instr.dec (.reg r)) s = .next t ∧ Advanced 1 4 s t
        ∧ t.cpu.reg r = s.cpu.reg r - 1#8 ∧ t.cpu.flags = down (s.cpu.reg r) ∧ RegisterFrame [r] s t)
    ∧ (let hl := s.cpu.h ++ s.cpu.l
      encode .inc_atHL = [0x34#8] ∧ encode .dec_atHL = [0x35#8]
      ∧ (∃ t, exec .inc_atHL s = .next t ∧ Advanced 1 12 s t ∧ StoredByte hl (s.read hl + 1#8) s t
        ∧ t.cpu.flags = up (s.read hl) ∧ OtherRegsKept [] s t ∧ t.cpu.sp = s.cpu.sp ∧ ControlKept s t)
      ∧ ∃ t, exec .dec_atHL s = .next t ∧ Advanced 1 12 s t ∧ StoredByte hl (s.read hl - 1#8) s t
        ∧ t.cpu.flags = down (s.read hl) ∧ OtherRegsKept [] s t ∧ t.cpu.sp = s.cpu.sp ∧ ControlKept s t)

/-- `DAA` (R183): the adjustment and the carry after it, from `A` and the flags before. -/
def Obligations.DecimalAdjust : Prop :=
  ∀ s : State,
    let a := s.cpu.a.toNat
    let f := s.cpu.flags
    let low := f.h || (!f.n && decide (a % 16 > 0x9))
    let high := f.c || (!f.n && decide (a > 0x99))
    let adj : Nat := (if low then 0x06 else 0) + (if high then 0x60 else 0)
    let r : Byte := if f.n then BitVec.ofInt 8 ((a : Int) - adj) else BitVec.ofNat 8 (a + adj)
    encode .daa = [0x27#8]
    ∧ ∃ t, exec .daa s = .next t ∧ SetsA r { z := decide (r = 0#8), n := f.n, h := false, c := high } 1 4 s t

/-- What `DAA` is for: after the addition (or subtraction) of two packed decimal bytes it leaves the decimal sum (or
difference) modulo 100, with the decimal carry (or borrow) in `fC`. -/
def Obligations.DecimalAdjustIsDecimalArithmetic : Prop :=
  ∀ (n : Byte) (s : State), isDecimal s.cpu.a → isDecimal n →
    (∃ t u, exec (.add_A_n n) s = .next t ∧ exec .daa t = .next u
      ∧ isDecimal u.cpu.a ∧ decimal u.cpu.a = (decimal s.cpu.a + decimal n) % 100
      ∧ u.cpu.flags.c = decide (decimal s.cpu.a + decimal n > 99)
      ∧ u.cpu.flags.z = decide ((decimal s.cpu.a + decimal n) % 100 = 0))
    ∧ ∃ t u, exec (.sub_n n) s = .next t ∧ exec .daa t = .next u
      ∧ isDecimal u.cpu.a ∧ (decimal u.cpu.a : Int) = ((decimal s.cpu.a : Int) - decimal n) % 100
      ∧ u.cpu.flags.c = decide (decimal s.cpu.a < decimal n)
      ∧ u.cpu.flags.z = decide (decimal s.cpu.a = decimal n)

/-- `CPL`, `SCF` and `CCF` (R184, R185, R186). -/
def Obligations.ComplementAndCarryFlag : Prop :=
  ∀ s : State,
    (encode .cpl = [0x2F#8] ∧ ∃ t, exec .cpl s = .next t
      ∧ SetsA (~~~s.cpu.a) { z := s.cpu.flags.z, n := true, h := true, c := s.cpu.flags.c } 1 4 s t)
    ∧ (encode .scf = [0x37#8] ∧ ∃ t, exec .scf s = .next t
      ∧ SetsA s.cpu.a { z := s.cpu.flags.z, n := false, h := false, c := true } 1 4 s t)
    ∧ (encode .ccf = [0x3F#8] ∧ ∃ t, exec .ccf s = .next t
      ∧ SetsA s.cpu.a { z := s.cpu.flags.z, n := false, h := false, c := !s.cpu.flags.c } 1 4 s t)

/-! ## Sixteen-bit arithmetic (42_alu16.md) -/

/-- `ADD HL,rr`, `INC rr` and `DEC rr` (R200, R201, R202): the addition leaves `fZ`, the other two leave every flag. -/
def Obligations.PairArithmetic : Prop :=
  ∀ (p : Pair) (s : State),
    let hl := (s.cpu.h ++ s.cpu.l).toNat
    let v := (s.cpu.pair p).toNat
    (encode (Instr.addHl p) = [0b00#2 ++ p.code ++ 0b1001#4]
      ∧ ∃ t, exec (Instr.addHl p) s = .next t ∧ SetsPair .hl (BitVec.ofNat 16 (hl + v)) 1 8 s t
        ∧ t.cpu.flags =
          { z := s.cpu.flags.z, n := false, h := decide (hl % 0x1000 + v % 0x1000 > 0x0FFF), c := decide (hl + v > 0xFFFF) })
    ∧ (encode (Instr.incPair p) = [0b00#2 ++ p.code ++ 0b0011#4]
      ∧ ∃ t, exec (Instr.incPair p) s = .next t ∧ SetsPair p (BitVec.ofNat 16 (v + 1)) 1 8 s t
        ∧ t.cpu.flags = s.cpu.flags)
    ∧ (encode (Instr.decPair p) = [0b00#2 ++ p.code ++ 0b1011#4]
      ∧ ∃ t, exec (Instr.decPair p) s = .next t ∧ SetsPair p (BitVec.ofInt 16 ((v : Int) - 1)) 1 8 s t
        ∧ t.cpu.flags = s.cpu.flags)

/-! ## Rotates, shifts, bits (43_rotate_shift_bit.md) -/

/-- `RLCA`, `RLA`, `RRCA` and `RRA` (R210 to R213): `fZ` is always cleared. -/
def Obligations.RotateAccumulator : Prop :=
  (encode .rlca = [0x07#8] ∧ encode .rla = [0x17#8] ∧ encode .rrca = [0x0F#8] ∧ encode .rra = [0x1F#8])
  ∧ ∀ p ∈ [(Instr.rlca, RotOp.rlc), (Instr.rla, RotOp.rl), (Instr.rrca, RotOp.rrc), (Instr.rra, RotOp.rr)],
    ∀ s : State,
      let r := rotated p.2 s.cpu.a s.cpu.flags.c
      ∃ t, exec p.1 s = .next t ∧ SetsA r.1 { z := false, n := false, h := false, c := r.2 } 1 4 s t

/-- The eight prefixed rotates and shifts on a register and on the byte at `HL` (R215 to R222). -/
def Obligations.RotateAndShift : Prop :=
  ∀ (op : RotOp) (s : State),
    (∀ r : Reg8,
      let x := rotated op (s.cpu.reg r) s.cpu.flags.c
      encode (Instr.rot op (.reg r)) = [0xCB#8, 0b00#2 ++ op.code ++ r.code]
      ∧ ∃ t, exec (Instr.rot op (.reg r)) s = .next t ∧ Advanced 2 8 s t ∧ t.cpu.reg r = x.1
        ∧ t.cpu.flags = { z := decide (x.1 = 0#8), n := false, h := false, c := x.2 } ∧ RegisterFrame [r] s t)
    ∧ (let hl := s.cpu.h ++ s.cpu.l
      let x := rotated op (s.read hl) s.cpu.flags.c
      encode (Instr.rot op .atHL) = [0xCB#8, 0b00#2 ++ op.code ++ 0b110#3]
      ∧ ∃ t, exec (Instr.rot op .atHL) s = .next t ∧ Advanced 2 16 s t ∧ StoredByte hl x.1 s t
        ∧ t.cpu.flags = { z := decide (x.1 = 0#8), n := false, h := false, c := x.2 }
        ∧ OtherRegsKept [] s t ∧ t.cpu.sp = s.cpu.sp ∧ ControlKept s t)

/-- `BIT b,r`, `RES b,r` and `SET b,r`, with their forms on `(HL)` (R223, R224, R225): `BIT` writes nothing back and leaves
`fC`; the other two write no flag. -/
def Obligations.BitOperations : Prop :=
  ∀ (b : Field3) (s : State),
    let cleared (v : Byte) : Byte := v &&& ~~~(1#8 <<< b.toNat)
    let made (v : Byte) : Byte := v ||| (1#8 <<< b.toNat)
    let tested (v : Byte) : Flags := { z := !v.getLsbD b.toNat, n := false, h := true, c := s.cpu.flags.c }
    let hl := s.cpu.h ++ s.cpu.l
    (∀ r : Reg8,
      encode (Instr.bit b (.reg r)) = [0xCB#8, 0b01#2 ++ b.code ++ r.code]
      ∧ encode (Instr.res b (.reg r)) = [0xCB#8, 0b10#2 ++ b.code ++ r.code]
      ∧ encode (Instr.set b (.reg r)) = [0xCB#8, 0b11#2 ++ b.code ++ r.code]
      ∧ (∃ t, exec (Instr.bit b (.reg r)) s = .next t ∧ Advanced 2 8 s t
        ∧ t.cpu.flags = tested (s.cpu.reg r) ∧ RegisterFrame [] s t)
      ∧ (∃ t, exec (Instr.res b (.reg r)) s = .next t ∧ Loaded r (cleared (s.cpu.reg r)) 2 8 s t)
      ∧ ∃ t, exec (Instr.set b (.reg r)) s = .next t ∧ Loaded r (made (s.cpu.reg r)) 2 8 s t)
    ∧ encode (Instr.bit b .atHL) = [0xCB#8, 0b01#2 ++ b.code ++ 0b110#3]
    ∧ encode (Instr.res b .atHL) = [0xCB#8, 0b10#2 ++ b.code ++ 0b110#3]
    ∧ encode (Instr.set b .atHL) = [0xCB#8, 0b11#2 ++ b.code ++ 0b110#3]
    ∧ (∃ t, exec (Instr.bit b .atHL) s = .next t ∧ Advanced 2 12 s t
      ∧ t.cpu.flags = tested (s.read hl) ∧ RegisterFrame [] s t)
    ∧ (∃ t, exec (Instr.res b .atHL) s = .next t ∧ Stored hl (cleared (s.read hl)) 2 16 s t)
    ∧ ∃ t, exec (Instr.set b .atHL) s = .next t ∧ Stored hl (made (s.read hl)) 2 16 s t

/-! ## Control transfer (44_control.md) -/

/-- `JP nn`, `JP cc,nn`, `JP HL`, `JR e` and `JR cc,e` (R241 to R245): the displacement is added to the address after the
instruction, and a condition chooses between the two costs. -/
def Obligations.Jumps : Prop :=
  ∀ (cc : Cond) (nn : Word) (e : Byte) (s : State),
    (encode (.jp_nn nn) = [0xC3#8, nn.extractLsb' 0 8, nn.extractLsb' 8 8]
      ∧ ∃ t, exec (.jp_nn nn) s = .next t ∧ Jumped nn 16 s t)
    ∧ (encode (Instr.jpCond cc nn) = [0b110#3 ++ cc.code ++ 0b010#3, nn.extractLsb' 0 8, nn.extractLsb' 8 8]
      ∧ ∃ t, exec (Instr.jpCond cc nn) s = .next t
        ∧ (if s.cpu.flags.test cc then Jumped nn 16 s t else Jumped (s.after 3) 12 s t))
    ∧ (encode .jp_HL = [0xE9#8] ∧ ∃ t, exec .jp_HL s = .next t ∧ Jumped (s.cpu.h ++ s.cpu.l) 4 s t)
    ∧ (encode (.jr_e e) = [0x18#8, e]
      ∧ ∃ t, exec (.jr_e e) s = .next t ∧ Jumped (BitVec.ofInt 16 ((s.after 2).toNat + e.toInt)) 12 s t)
    ∧ (encode (Instr.jrCond cc e) = [0b001#3 ++ cc.code ++ 0b000#3, e]
      ∧ ∃ t, exec (Instr.jrCond cc e) s = .next t
        ∧ (if s.cpu.flags.test cc then Jumped (BitVec.ofInt 16 ((s.after 2).toNat + e.toInt)) 12 s t
          else Jumped (s.after 2) 8 s t))

/-- `CALL nn`, `CALL cc,nn` and `RST t` (R246, R247, R253): the address after the instruction is pushed, high byte first;
nothing is pushed when a call is not taken. -/
def Obligations.Calls : Prop :=
  ∀ (cc : Cond) (k : Field3) (nn : Word) (s : State),
    (encode (.call_nn nn) = [0xCD#8, nn.extractLsb' 0 8, nn.extractLsb' 8 8]
      ∧ ∃ t, exec (.call_nn nn) s = .next t ∧ t.cpu.pc = nn ∧ t.cycles = 24 ∧ Pushed (s.after 3) s t)
    ∧ (encode (Instr.callCond cc nn) = [0b110#3 ++ cc.code ++ 0b100#3, nn.extractLsb' 0 8, nn.extractLsb' 8 8]
      ∧ ∃ t, exec (Instr.callCond cc nn) s = .next t
        ∧ (if s.cpu.flags.test cc then t.cpu.pc = nn ∧ t.cycles = 24 ∧ Pushed (s.after 3) s t
          else Jumped (s.after 3) 12 s t))
    ∧ (encode (Instr.rst k) = [0b11#2 ++ k.code ++ 0b111#3]
      ∧ ∃ t, exec (Instr.rst k) s = .next t ∧ t.cpu.pc = BitVec.ofNat 16 (8 * k.toNat) ∧ t.cycles = 16
        ∧ Pushed (s.after 1) s t)

/-- `RET`, `RET cc` and `RETI` (R248, R249, R250): `pc` is popped, low byte first; `RETI` sets `IME` at once, so the interrupt
check of the same step already sees it. -/
def Obligations.Returns : Prop :=
  ∀ (cc : Cond) (s : State),
    let returned (t : State) : Prop :=
      t.cpu.pc = s.read (s.cpu.sp + 1#16) ++ s.read s.cpu.sp ∧ t.cpu.sp = s.cpu.sp + 2#16
        ∧ OtherRegsKept [] s t ∧ t.cpu.flags = s.cpu.flags ∧ NothingStored s t
    (encode .ret = [0xC9#8] ∧ ∃ t, exec .ret s = .next t ∧ returned t ∧ t.cycles = 16 ∧ ControlKept s t)
    ∧ (encode (Instr.retCond cc) = [0b110#3 ++ cc.code ++ 0b000#3]
      ∧ ∃ t, exec (Instr.retCond cc) s = .next t
        ∧ (if s.cpu.flags.test cc then returned t ∧ t.cycles = 20 ∧ ControlKept s t else Jumped (s.after 1) 8 s t))
    ∧ (encode .reti = [0xD9#8]
      ∧ ∃ t, exec .reti s = .next t ∧ returned t ∧ t.cycles = 16
        ∧ ControlKept { s with cpu := { s.cpu with ime := true } } t
        ∧ (s.running → s.cpu.imePending = false → s.fetched = .reti → step s = .next t.interruptCheck.advance))

/-! ## System instructions (45_system.md) -/

/-- `NOP`, `STOP` and `DI` (R260, R262, R263). `STOP` ignores its second byte, clears the divider and stops the clock. -/
def Obligations.NopStopDisable : Prop :=
  ∀ (n : Byte) (s : State),
    (encode .nop = [0x00#8] ∧ ∃ t, exec .nop s = .next t ∧ Jumped (s.after 1) 4 s t)
    ∧ (encode (.stop n) = [0x10#8, n]
      ∧ exec (.stop n) s = .next { s with
          cpu := { s.cpu with pc := s.after 2, haltBug := false, stopped := true }
          timer := { s.timer with divCounter := 0#16 }
          cycles := 4 })
    ∧ (encode .di = [0xF3#8]
      ∧ exec .di s = .next { s with
          cpu := { s.cpu with pc := s.after 1, haltBug := false, ime := false, imePending := false }
          cycles := 4 })

/-- `EI` sets the pending flag and leaves `IME` (R264); no interrupt is dispatched by the step that executes it with `IME` and
the flag clear; the next step sets `IME` before it executes its instruction, so that instruction still runs first. -/
def Obligations.EnableInterruptsIsDelayed : Prop :=
  (encode .ei = [0xFB#8])
  ∧ (∀ s : State, exec .ei s = .next { s with
      cpu := { s.cpu with pc := s.after 1, haltBug := false, imePending := true }
      cycles := 4 })
  ∧ (∀ s : State, s.running → s.read s.cpu.pc = 0xFB#8 → s.cpu.ime = false → s.cpu.imePending = false →
      ∃ t, step s = .next t ∧ t.cpu.ime = false ∧ t.cpu.imePending = true ∧ t.cpu.pc = s.after 1
        ∧ t.cpu.sp = s.cpu.sp ∧ t.cycles = 4)
  ∧ ∀ s : State, s.running → s.cpu.imePending = true →
      let s1 : State := { s with cpu := { s.cpu with ime := true, imePending := false } }
      ∃ t, exec s.fetched s1 = .next t
        ∧ step s = .next (if t.cpu.fault.isSome then t.advance else t.interruptCheck.advance)

/-- `HALT` (R261): with `IME = 0` and an enabled interrupt already pending it does not halt but sets `halt_bug`. -/
def Obligations.Halt : Prop :=
  encode .halt = [0x76#8]
  ∧ ∀ s : State,
    let t : State := { s with cpu := { s.cpu with pc := s.after 1, haltBug := false }, cycles := 4 }
    exec .halt s = .next
      (if s.cpu.ime = true ∨ s.intr.pendingFlags &&& s.intr.enableMask.extractLsb' 0 5 = 0#5 then
        { t with cpu := { t.cpu with halted := true } }
      else { t with cpu := { t.cpu with haltBug := true } })

/-- No instruction but `DI` and `RETI` changes `IME`; none but `EI` and `DI` the pending flag; none but `HALT` halts or sets
`halt_bug`; none but `STOP` stops; none but an unassigned byte sets `fault` (10_state.md R15 to R20). -/
def Obligations.OnlySystemInstructionsChangeControl : Prop :=
  ∀ (i : Instr) (s t : State), exec i s = .next t →
    (t.cpu.ime ≠ s.cpu.ime → (i = .di ∧ t.cpu.ime = false) ∨ (i = .reti ∧ t.cpu.ime = true))
    ∧ (t.cpu.imePending ≠ s.cpu.imePending → (i = .ei ∧ t.cpu.imePending = true) ∨ (i = .di ∧ t.cpu.imePending = false))
    ∧ (t.cpu.halted ≠ s.cpu.halted → i = .halt ∧ t.cpu.halted = true)
    ∧ (t.cpu.haltBug = true → i = .halt ∧ s.cpu.ime = false)
    ∧ (t.cpu.stopped ≠ s.cpu.stopped → (∃ n, i = .stop n) ∧ t.cpu.stopped = true)
    ∧ (t.cpu.fault ≠ s.cpu.fault → ∃ op, i = .illegal op ∧ t.cpu.fault = some ⟨s.cpu.pc, op⟩)

/-! ## Interrupts (60_exceptions.md) -/

/-- The interrupt check (R306, R307): with `IME = 0` it does nothing; with `IME = 1` the lowest-numbered bit that is pending and
enabled is taken, `IME`, `halted` and that bit are cleared, `pc` is pushed, the vector is `0x0040 + 8 * n`, and the overhead is
20 cycles. Everything but `sp`, `pc` and what the two stores do is kept, the other requests too. -/
def Obligations.InterruptDispatch : Prop :=
  ∀ s : State,
    let pending (k : Nat) : Bool := s.intr.pendingFlags.getLsbD k && s.intr.enableMask.getLsbD k
    (s.cpu.ime = false → s.interruptCheck = s)
    ∧ ((∀ k, k < 5 → pending k = false) → s.interruptCheck = s)
    ∧ ∀ k, s.cpu.ime = true → k < 5 → pending k = true → (∀ j, j < k → pending j = false) →
      let s0 : State := { s with
        cpu := { s.cpu with ime := false, halted := false, haltBug := false }
        intr := { s.intr with pendingFlags := s.intr.pendingFlags &&& ~~~(1#5 <<< k) } }
      let t := s.interruptCheck
      Pushed s.cpu.pc s0 { t with cpu := { t.cpu with haltBug := false } }
        ∧ t.cpu.haltBug = s.cpu.haltBug
        ∧ t.cpu.pc = BitVec.ofNat 16 (0x0040 + 8 * k)
        ∧ t.cycles = s.cycles + 20

/-! ## The bus (20_memory.md) -/

/-- Working RAM and high RAM are plain storage, the echo is the same storage 0x2000 lower (R55, R56, R59); addresses without an
owner read 0xFF and take no write: 0xFEA0 to 0xFEFF and the addresses of the I/O block that have no register (R57, R58). -/
def Obligations.StorageEchoAndGaps : Prop :=
  ∀ (s : State) (a : Word) (v : Byte),
    let n := a.toNat
    (0xC000 ≤ n → n ≤ 0xDFFF →
      s.read a = s.mem.read .wram (n - 0xC000) ∧ s.write a v = { s with mem := s.mem.write .wram (n - 0xC000) v }
        ∧ (s.write a v).read a = v)
    ∧ (0xFF80 ≤ n → n ≤ 0xFFFE →
      s.read a = s.mem.read .hram (n - 0xFF80) ∧ s.write a v = { s with mem := s.mem.write .hram (n - 0xFF80) v }
        ∧ (s.write a v).read a = v)
    ∧ (0xE000 ≤ n → n ≤ 0xFDFF →
      s.read a = s.read (a - 0x2000#16) ∧ s.write a v = s.write (a - 0x2000#16) v
        ∧ (s.write a v).read (a - 0x2000#16) = v ∧ (s.write (a - 0x2000#16) v).read a = v)
    ∧ ((0xFEA0 ≤ n ∧ n ≤ 0xFEFF) ∨ n = 0xFF03 ∨ (0xFF08 ≤ n ∧ n ≤ 0xFF0E) ∨ (0xFF10 ≤ n ∧ n ≤ 0xFF3F)
        ∨ (0xFF4C ≤ n ∧ n ≤ 0xFF4F) ∨ (0xFF51 ≤ n ∧ n ≤ 0xFF7F) →
      s.read a = 0xFF#8 ∧ s.write a v = s)

/-- The access gate (R69, R70, R71): with the LCD on, video RAM is closed in mode 3 and sprite memory in modes 2 and 3; a closed
address reads 0xFF and drops a write, an open one is plain storage. -/
def Obligations.AccessGate : Prop :=
  ∀ (s : State) (a : Word) (v : Byte),
    let on := s.ppu.lcdc.getLsbD 7
    let m := s.ppu.mode
    (0x8000 ≤ a.toNat → a.toNat ≤ 0x9FFF →
      if on = true ∧ m = .pixelTransfer then s.read a = 0xFF#8 ∧ s.write a v = s
      else s.read a = s.mem.read .vram (a.toNat - 0x8000)
        ∧ s.write a v = { s with mem := s.mem.write .vram (a.toNat - 0x8000) v })
    ∧ (0xFE00 ≤ a.toNat → a.toNat ≤ 0xFE9F →
      if on = true ∧ (m = .oamSearch ∨ m = .pixelTransfer) then s.read a = 0xFF#8 ∧ s.write a v = s
      else s.read a = s.mem.read .oam (a.toNat - 0xFE00)
        ∧ s.write a v = { s with mem := s.mem.write .oam (a.toNat - 0xFE00) v })

/-- The four control ranges of `MBC1` (R63 to R66): each write changes one field and nothing else, and no write makes the low
five bits of `rom_bank` zero. -/
def Obligations.BankControl : Prop :=
  ∀ (s : State) (ram : RamSize) (a : Word) (v : Byte), s.params.cart = .mbc1 ram →
    let low := if v.toNat % 32 = 0 then 1 else v.toNat % 32
    let bank := s.cart.romBank.toNat
    (a.toNat ≤ 0x1FFF → s.write a v = { s with cart := { s.cart with ramEnable := decide (v.toNat % 16 = 0xA) } })
    ∧ (0x2000 ≤ a.toNat → a.toNat ≤ 0x3FFF →
        s.write a v = { s with cart := { s.cart with romBank := BitVec.ofNat 7 (bank / 32 * 32 + low) } })
    ∧ (0x4000 ≤ a.toNat → a.toNat ≤ 0x5FFF → s.cart.bankMode = false →
        s.write a v = { s with cart := { s.cart with romBank := BitVec.ofNat 7 (v.toNat % 4 * 32 + bank % 32) } })
    ∧ (0x4000 ≤ a.toNat → a.toNat ≤ 0x5FFF → s.cart.bankMode = true →
        s.write a v = { s with cart := { s.cart with ramBank := BitVec.ofNat 2 v.toNat } })
    ∧ (0x6000 ≤ a.toNat → a.toNat ≤ 0x7FFF → s.write a v = { s with cart := { s.cart with bankMode := v.getLsbD 0 } })
    ∧ (bank % 32 ≠ 0 → (s.write a v).cart.romBank.toNat % 32 ≠ 0)

/-- The cartridge windows: `NoMBC` (R62), `MBC1` ROM (R67) and `MBC1` RAM (R68). While the overlay is on, the lowest 256
addresses are read from the bootstrap program instead (statement BootOverlay). -/
def Obligations.CartridgeWindows : Prop :=
  ∀ (s : State) (a : Word) (v : Byte),
    let n := a.toNat
    let banks := s.params.romSize.banks
    let seen : Prop := s.bootOverlay = false ∨ 0x0100 ≤ n
    (s.params.cart = .noMbc →
      (n ≤ 0x7FFF → s.write a v = s)
      ∧ (n ≤ 0x7FFF → seen → s.read a = s.mem.read .rom (n / 0x4000 % banks * 0x4000 + n % 0x4000))
      ∧ (0xA000 ≤ n → n ≤ 0xBFFF → s.read a = 0xFF#8 ∧ s.write a v = s))
    ∧ ∀ ram, s.params.cart = .mbc1 ram →
      (n ≤ 0x3FFF → seen → s.read a = s.mem.read .rom n)
      ∧ (0x4000 ≤ n → n ≤ 0x7FFF →
          s.read a = s.mem.read .rom (s.cart.romBank.toNat % banks * 0x4000 + (n - 0x4000)))
      ∧ (0xA000 ≤ n → n ≤ 0xBFFF →
          if s.cart.ramEnable = false ∨ ram.bytes = 0 then s.read a = 0xFF#8 ∧ s.write a v = s
          else
            let i := (s.cart.ramBank.toNat * 0x2000 + (n - 0xA000)) % ram.bytes
            s.read a = s.mem.read .eram i ∧ s.write a v = { s with mem := s.mem.write .eram i v }
              ∧ (s.write a v).read a = v)

/-- No step changes the parameters or a byte of the images, in any bank, whatever the program writes and whatever the bank
registers hold (10_state.md R27, R51; 00_scope.md R4). -/
def Obligations.ImagesAndParametersNeverChange : Prop :=
  ∀ s t : State, step s = .next t →
    t.params = s.params ∧ (∀ off, t.mem.read .rom off = s.mem.read .rom off)
      ∧ ∀ off, t.mem.read .boot off = s.mem.read .boot off

/-- The sprite-memory copy (R74): byte `i` of sprite memory becomes what the page held before the copy, read past the gates;
every other byte, and every device but the copy register, is as before; no cycle passes. -/
def Obligations.SpriteMemoryCopy : Prop :=
  ∀ (s : State) (v : Byte),
    let s0 : State := { s with ppu := { s.ppu with dma := v } }
    let t := s.write 0xFF46#16 v
    SameDevices s0 t ∧ t.cpu = s.cpu ∧ t.cycles = s.cycles
      ∧ (∀ i, i < 160 → t.mem.read .oam i = s0.readRaw (BitVec.ofNat 16 (v.toNat * 0x100 + i)))
      ∧ ∀ r o, (r, o) ∉ (List.range 160).map (Prod.mk Region.oam) → t.mem.read r o = s.mem.read r o

/-- Reads and writes of the joypad, serial, timer and interrupt registers on the bus (10_state.md R33 to R40, R49), and what
they read as after reset. A joypad line reads 0 exactly when a pressed button of a selected group is on it. -/
def Obligations.SystemRegistersOnTheBus : Prop :=
  (∀ (s : State) (v : Byte),
    let k := s.joypad.buttons
    let dir := !s.joypad.sel.getLsbD 0
    let act := !s.joypad.sel.getLsbD 1
    let line (p q : Bool) : BitVec 1 := BitVec.ofBool !((dir && p) || (act && q))
    (s.read 0xFF00#16 = 0b11#2 ++ s.joypad.sel ++ line k.down k.start ++ line k.up k.select ++ line k.left k.b
          ++ line k.right k.a
      ∧ s.write 0xFF00#16 v = { s with joypad := { s.joypad with sel := v.extractLsb' 4 2 } })
    ∧ (s.read 0xFF01#16 = s.serial.sb ∧ s.write 0xFF01#16 v = { s with serial := { s.serial with sb := v } })
    ∧ (s.read 0xFF02#16 = 0x7E#8 ||| (if s.serial.scStart then 0x80#8 else 0#8) ||| (if s.serial.scClock then 1#8 else 0#8)
      ∧ (s.write 0xFF02#16 v).serial.scStart = v.getLsbD 7 ∧ (s.write 0xFF02#16 v).serial.scClock = v.getLsbD 0)
    ∧ (s.read 0xFF04#16 = s.timer.divCounter.extractLsb' 8 8
      ∧ s.write 0xFF04#16 v = { s with timer := { s.timer with divCounter := 0#16 } }
      ∧ (s.write 0xFF04#16 v).read 0xFF04#16 = 0#8)
    ∧ (s.read 0xFF05#16 = s.timer.tima ∧ s.write 0xFF05#16 v = { s with timer := { s.timer with tima := v } })
    ∧ (s.read 0xFF06#16 = s.timer.tma ∧ s.write 0xFF06#16 v = { s with timer := { s.timer with tma := v } })
    ∧ (s.read 0xFF07#16 = 0xF8#8 ||| s.timer.tac.setWidth 8
      ∧ s.write 0xFF07#16 v = { s with timer := { s.timer with tac := v.extractLsb' 0 3 } })
    ∧ (s.read 0xFF0F#16 = 0xE0#8 ||| s.intr.pendingFlags.setWidth 8
      ∧ s.write 0xFF0F#16 v = { s with intr := { s.intr with pendingFlags := v.extractLsb' 0 5 } })
    ∧ (s.read 0xFFFF#16 = s.intr.enableMask ∧ s.write 0xFFFF#16 v = { s with intr := { s.intr with enableMask := v } }))
  ∧ ∀ (p : Params) (rom boot : Memory) (epoch : Nat),
    let s := State.powerOn p rom boot epoch
    s.read 0xFF00#16 = 0xFF#8 ∧ s.read 0xFF01#16 = 0x00#8 ∧ s.read 0xFF02#16 = 0x7E#8
      ∧ s.read 0xFF04#16 = (if p.bootPresent then 0x00#8 else 0xAB#8)
      ∧ s.read 0xFF05#16 = 0x00#8 ∧ s.read 0xFF06#16 = 0x00#8 ∧ s.read 0xFF07#16 = 0xF8#8
      ∧ s.read 0xFF0F#16 = (if p.bootPresent then 0xE0#8 else 0xE1#8) ∧ s.read 0xFFFF#16 = 0x00#8

/-- Reads and writes of the PPU registers on the bus (10_state.md R42 to R45, R47) and what they read as after reset. `LY` reads
0 while the LCD is off and takes no write; the coincidence bit of `STAT` is the comparison at the read. -/
def Obligations.VideoRegistersOnTheBus : Prop :=
  (∀ (s : State) (v : Byte),
    (s.read 0xFF41#16 = 0x80#8 ||| s.ppu.statEn.setWidth 8 <<< 3 ||| (if s.ppu.ly = s.ppu.lyc then 4#8 else 0#8)
        ||| (if s.ppu.lcdc.getLsbD 7 then s.ppu.mode.code.setWidth 8 else 0#8)
      ∧ s.write 0xFF41#16 v = { s with ppu := { s.ppu with statEn := v.extractLsb' 3 4 } })
    ∧ (s.read 0xFF42#16 = s.ppu.scy ∧ s.write 0xFF42#16 v = { s with ppu := { s.ppu with scy := v } })
    ∧ (s.read 0xFF43#16 = s.ppu.scx ∧ s.write 0xFF43#16 v = { s with ppu := { s.ppu with scx := v } })
    ∧ (s.read 0xFF44#16 = (if s.ppu.lcdc.getLsbD 7 then s.ppu.ly else 0#8) ∧ s.write 0xFF44#16 v = s)
    ∧ (s.read 0xFF45#16 = s.ppu.lyc ∧ s.write 0xFF45#16 v = { s with ppu := { s.ppu with lyc := v } })
    ∧ (s.read 0xFF47#16 = s.ppu.bgp ∧ s.write 0xFF47#16 v = { s with ppu := { s.ppu with bgp := v } })
    ∧ (s.read 0xFF48#16 = s.ppu.obp0 ∧ s.write 0xFF48#16 v = { s with ppu := { s.ppu with obp0 := v } })
    ∧ (s.read 0xFF49#16 = s.ppu.obp1 ∧ s.write 0xFF49#16 v = { s with ppu := { s.ppu with obp1 := v } })
    ∧ (s.read 0xFF4A#16 = s.ppu.wy ∧ s.write 0xFF4A#16 v = { s with ppu := { s.ppu with wy := v } })
    ∧ (s.read 0xFF4B#16 = s.ppu.wx ∧ s.write 0xFF4B#16 v = { s with ppu := { s.ppu with wx := v } }))
  ∧ ∀ (p : Params) (rom boot : Memory) (epoch : Nat),
    let s := State.powerOn p rom boot epoch
    s.read 0xFF41#16 = (if p.bootPresent then 0x84#8 else 0x86#8)
      ∧ s.read 0xFF42#16 = 0#8 ∧ s.read 0xFF43#16 = 0#8 ∧ s.read 0xFF44#16 = 0#8 ∧ s.read 0xFF45#16 = 0#8
      ∧ s.read 0xFF47#16 = (if p.bootPresent then 0x00#8 else 0xFC#8)
      ∧ s.read 0xFF48#16 = (if p.bootPresent then 0x00#8 else 0xFF#8)
      ∧ s.read 0xFF49#16 = (if p.bootPresent then 0x00#8 else 0xFF#8)
      ∧ s.read 0xFF4A#16 = 0#8 ∧ s.read 0xFF4B#16 = 0#8

/-- The bootstrap overlay (R54; 10_state.md R48): while it is on, the lowest 256 addresses read from the bootstrap program and
nothing else changes owner; a write with bit 0 set to 0xFF50 ends it, with bit 0 clear does nothing; no step sets it. -/
def Obligations.BootOverlay : Prop :=
  (∀ (s : State) (a : Word), s.bootOverlay = true →
    (a.toNat ≤ 0x00FF → s.read a = s.mem.read .boot a.toNat)
    ∧ (0x0100 ≤ a.toNat → s.read a = State.read { s with bootOverlay := false } a))
  ∧ (∀ (s : State) (v : Byte), s.read 0xFF50#16 = 0xFF#8
    ∧ s.write 0xFF50#16 v = { s with bootOverlay := s.bootOverlay && !v.getLsbD 0 })
  ∧ ∀ s t : State, step s = .next t → t.bootOverlay = true → s.bootOverlay = true

/-! ## Timer and serial port (60_exceptions.md) -/

/-- `timer_tick(n)` in closed form (R316, R317, R318): the divider always counts; with `TAC[2] = 1` one increment per whole
period, reload from `TMA` on overflow, and `IF.2` set exactly when an overflow happened. A write to `DIV` clears the whole
divider and leaves the rest of the timer. -/
def Obligations.TimerTick : Prop :=
  (∀ (s : State) (v : Byte), (s.write 0xFF04#16 v).timer = { s.timer with divCounter := 0#16 })
  ∧ ∀ (s : State) (n : Nat),
    let period := [1024, 16, 64, 256].getD (s.timer.tac.toNat % 4) 0
    let sub := s.timer.timaSub + n
    let r := timaAfter s.timer.tima s.timer.tma (sub / period)
    s.timerTick n =
      if s.timer.tac.getLsbD 2 then
        { s with
          timer := { s.timer with
            divCounter := s.timer.divCounter + BitVec.ofNat 16 n, tima := r.1, timaSub := sub % period }
          intr := { s.intr with
            pendingFlags := if r.2 then s.intr.pendingFlags ||| 0b00100#5 else s.intr.pendingFlags } }
      else { s with timer := { s.timer with divCounter := s.timer.divCounter + BitVec.ofNat 16 n } }

/-- Advancing a device by `a` and then `b` cycles is advancing it by `a + b`; the advances of different devices commute, so the
order of the three in a machine step cannot be observed (61_ppu.md R350; 70_reset_and_hazards.md R410, R411). -/
def Obligations.DeviceAdvancesComposeAndCommute : Prop :=
  ∀ (s : State) (a b : Nat),
    (s.timerTick a).timerTick b = s.timerTick (a + b)
    ∧ (s.ppuTick a).ppuTick b = s.ppuTick (a + b)
    ∧ (s.serialTick a).serialTick b = s.serialTick (a + b)
    ∧ (s.timerTick a).ppuTick b = (s.ppuTick b).timerTick a
    ∧ (s.timerTick a).serialTick b = (s.serialTick b).timerTick a
    ∧ (s.ppuTick a).serialTick b = (s.serialTick b).ppuTick a

/-- The serial port (R320, R321): a write with bits 7 and 0 set records `SB` and starts a transfer of 4096 cycles; any other
write leaves none running; completion shifts in 0xFF, clears the start bit and raises the serial interrupt. -/
def Obligations.SerialTransfer : Prop :=
  (∀ (s : State) (v : Byte),
    (s.write 0xFF02#16 v).serial =
      { sb := s.serial.sb, scStart := v.getLsbD 7, scClock := v.getLsbD 0
        serialCount := if v.getLsbD 7 = true ∧ v.getLsbD 0 = true then 4096 else 0
        serialOut := if v.getLsbD 7 = true ∧ v.getLsbD 0 = true then s.serial.serialOut ++ [s.serial.sb]
          else s.serial.serialOut }
    ∧ (s.write 0xFF02#16 v).intr = s.intr)
  ∧ ∀ (s : State) (n : Nat),
    (s.serial.serialCount = 0 → s.serialTick n = s)
    ∧ (0 < s.serial.serialCount → n < s.serial.serialCount →
        s.serialTick n = { s with serial := { s.serial with serialCount := s.serial.serialCount - n } })
    ∧ (0 < s.serial.serialCount → s.serial.serialCount ≤ n →
        s.serialTick n = { s with
          serial := { s.serial with serialCount := 0, sb := 0xFF#8, scStart := false }
          intr := { s.intr with pendingFlags := s.intr.pendingFlags ||| 0b01000#5 } })

/-- The joypad interrupt (R323, R322): pressing a released button of a selected group sets `IF.4` and ends the stopped state;
any other press and every release changes the button alone; a write to `P1` raises nothing. -/
def Obligations.JoypadInterrupt : Prop :=
  (∀ (s : State) (key : Button) (pressed : Bool),
    let selected := if key.isDirection then !s.joypad.sel.getLsbD 0 else !s.joypad.sel.getLsbD 1
    let t := s.setButton key pressed
    (∀ k, t.joypad.buttons.get k = if k = key then pressed else s.joypad.buttons.get k)
    ∧ t.joypad.sel = s.joypad.sel
    ∧ (if pressed = true ∧ s.joypad.buttons.get key = false ∧ selected = true then
        t.intr.pendingFlags = s.intr.pendingFlags ||| 0b10000#5 ∧ t.cpu = { s.cpu with stopped := false }
      else t.intr.pendingFlags = s.intr.pendingFlags ∧ t.cpu = s.cpu)
    ∧ t.intr.enableMask = s.intr.enableMask ∧ t.timer = s.timer ∧ t.serial = s.serial ∧ t.cart = s.cart
    ∧ t.mem = s.mem ∧ t.ppu = s.ppu)
  ∧ ∀ (s : State) (v : Byte), (s.write 0xFF00#16 v).intr = s.intr

/-! ## PPU (61_ppu.md) -/

/-- One cycle of the PPU (R353, R355, R356, R357): nothing with the LCD off; with it on the position, the two interrupt
requests, the rendered scanline and the published frame, for each mode at the end of its budget; within the budget only `dot`
changes, and `dot` stays below the budget. -/
def Obligations.PpuCycle : Prop :=
  (∀ s : State, s.ppu.lcdc.getLsbD 7 = false → s.ppuTick1 = s)
  ∧ (∀ s : State, s.ppu.dot < s.ppu.mode.budget → s.ppuTick1.ppu.dot < s.ppuTick1.ppu.mode.budget)
  ∧ ∀ s : State, s.ppu.lcdc.getLsbD 7 = true →
    let p := s.ppu
    let on (k : Nat) : Bool := p.statEn.getLsbD (k - 3)
    let stat (b : Bool) : BitVec 5 := if b then 0b00010#5 else 0#5
    let moved (m : Mode) (l : Byte) (raised : BitVec 5) : State :=
      { s with
        ppu := { p with mode := m, ly := l, dot := 0 }
        intr := { s.intr with pendingFlags := s.intr.pendingFlags ||| raised } }
    let l1 := p.ly + 1#8
    s.ppuTick1 =
      match p.mode with
      | .oamSearch =>
        if p.dot = 79 then moved .pixelTransfer p.ly 0#5 else { s with ppu := { p with dot := p.dot + 1 } }
      | .pixelTransfer =>
        if p.dot = 171 then
          let t := moved .horizontalBlank p.ly (stat (on 3))
          { t with ppu := { t.ppu with fb := p.fb.setIfInBounds p.ly.toNat s.scanline } }
        else { s with ppu := { p with dot := p.dot + 1 } }
      | .horizontalBlank =>
        if p.dot = 203 then
          if l1 = 144#8 then
            let t := moved .verticalBlank l1 (0b00001#5 ||| stat (on 4 || (on 6 && l1 == p.lyc)))
            { t with ppu := { t.ppu with frames := p.frames ++ [p.fb] } }
          else moved .oamSearch l1 (stat (on 5 || (on 6 && l1 == p.lyc)))
        else { s with ppu := { p with dot := p.dot + 1 } }
      | .verticalBlank =>
        if p.dot = 455 then
          if l1 = 154#8 then moved .oamSearch 0#8 (stat (on 5 || (on 6 && 0#8 == p.lyc)))
          else moved .verticalBlank l1 (stat (on 6 && l1 == p.lyc))
        else { s with ppu := { p with dot := p.dot + 1 } }

/-- The frame structure (R354, R351): with the LCD on, from any legal position, after any number of cycles the PPU is at the
position that cycle of the 70224-cycle frame has, one frame is published at each entry to scanline 144, and the
vertical-blank request appears exactly there. -/
def Obligations.FrameTimeline : Prop :=
  ∀ (s : State) (n : Nat), s.ppu.lcdc.getLsbD 7 = true → s.ppu.Ok →
    let t := s.ppuTick n
    let k := s.ppu.frameCycle
    let entries := (k + n + 4560) / 70224 - (k + 4560) / 70224
    (t.ppu.mode, t.ppu.ly.toNat, t.ppu.dot) = framePosition ((k + n) % 70224)
    ∧ t.ppu.frames.length = s.ppu.frames.length + entries
    ∧ t.intr.pendingFlags.getLsbD 0 = (s.intr.pendingFlags.getLsbD 0 || decide (0 < entries))

/-- The LCD enable (R352): while it is off the PPU stands still at its start, `STAT` reads mode 0 and both gates are open; switching it off
or on puts the PPU at its start and raises nothing; a write that does not change bit 7 only stores. -/
def Obligations.LcdEnable : Prop :=
  ∀ (s : State) (v : Byte) (n : Nat),
    (s.ppu.lcdc.getLsbD 7 = false → s.ppuTick n = s ∧ s.vramDenied = false ∧ s.oamDenied = false
      ∧ (s.read 0xFF41#16).extractLsb' 0 2 = 0#2 ∧ s.read 0xFF44#16 = 0#8)
    ∧ (s.Inv → s.ppu.lcdc.getLsbD 7 = false → s.ppu.ly = 0#8 ∧ s.ppu.mode = .horizontalBlank ∧ s.ppu.dot = 0)
    ∧ s.read 0xFF40#16 = s.ppu.lcdc
    ∧ (s.ppu.lcdc.getLsbD 7 = true → v.getLsbD 7 = false →
        s.write 0xFF40#16 v = { s with ppu := { s.ppu with lcdc := v, mode := .horizontalBlank, ly := 0#8, dot := 0 } })
    ∧ (s.ppu.lcdc.getLsbD 7 = false → v.getLsbD 7 = true →
        s.write 0xFF40#16 v = { s with ppu := { s.ppu with lcdc := v, mode := .oamSearch, ly := 0#8, dot := 0 } })
    ∧ (s.ppu.lcdc.getLsbD 7 = v.getLsbD 7 → s.write 0xFF40#16 v = { s with ppu := { s.ppu with lcdc := v } })

/-- Composition and palettes (R365), and that rendering touches one row (R358): pixel `x` of row `LY` is the palette entry of
the winning sprite or of the background, and no other row changes. -/
def Obligations.Composition : Prop :=
  ∀ (s : State) (y x : Nat) (hy : y < 144) (hx : x < 160),
    let p := s.ppu
    let bg : BitVec 2 :=
      if p.lcdc.getLsbD 0 = false then 0#2
      else if s.windowCovers x then s.windowCi x else s.backgroundCi x
    let entry (pal : Byte) (ci : BitVec 2) : BitVec 2 := (pal >>> (2 * ci.toNat)).setWidth 2
    (s.renderScanline.ppu.fb[y])[x] =
      if y ≠ p.ly.toNat then (p.fb[y])[x]
      else
        match s.spriteAt x s.selectedSprites with
        | some (q, ci) =>
          if q.attrs.getLsbD 7 = true ∧ bg ≠ 0#2 then entry p.bgp bg
          else entry (if q.attrs.getLsbD 4 then p.obp1 else p.obp0) ci
        | none => entry p.bgp bg

/-- Sprite selection for a scanline (R363): with sprites enabled, the list holds entries on the scanline only, in ascending
order of `(X, index)`, at most ten, and an entry on the scanline that is not in it comes after all of a full list. -/
def Obligations.SpriteSelection : Prop :=
  ∀ s : State,
    let list := s.selectedSprites
    let on (i : Nat) : Prop :=
      let y := (s.mem.read .oam (4 * i)).toNat
      y ≤ s.ppu.ly.toNat + 16 ∧ s.ppu.ly.toNat + 16 < y + (if s.ppu.lcdc.getLsbD 2 then 16 else 8)
    let before (p q : Sprite) : Prop := p.x.toNat < q.x.toNat ∨ (p.x = q.x ∧ p.index < q.index)
    (s.ppu.lcdc.getLsbD 1 = false → list = [])
    ∧ (s.ppu.lcdc.getLsbD 1 = true →
        list.length ≤ 10
        ∧ list.Pairwise before
        ∧ (∀ p ∈ list, ∃ i, i < 40 ∧ on i ∧ p = s.sprite i)
        ∧ ∀ i, i < 40 → on i → s.sprite i ∉ list → list.length = 10 ∧ ∀ p ∈ list, before p (s.sprite i))

/-! ## Reset (70_reset_and_hazards.md) -/

/-- The two reset profiles: every register as R400 gives it, for any parameters, images and epoch, and no byte of RAM listed,
so that RAM reads as the free value of log entry 3; and `reset()` applied to any state gives that state for the same parameters
and images (R402), for an epoch of the model's (log entry 4). The last clause is the model's choice and no rule of the spec:
that `State.reset` is one of these states, its parameters (`NoMBC`, two banks, no bootstrap program) are log entry 1, its empty
images log entry 2, its epoch 0 log entry 4. -/
def Obligations.ResetProfiles : Prop :=
  (∀ (p : Params) (rom boot : Memory) (epoch : Nat),
    let s := State.powerOn p rom boot epoch
    let b := p.bootPresent
    (s.cpu.a, s.cpu.f, s.cpu.b, s.cpu.c, s.cpu.d, s.cpu.e, s.cpu.h, s.cpu.l) =
        (if b then (0x00#8, 0x00#8, 0x00#8, 0x00#8, 0x00#8, 0x00#8, 0x00#8, 0x00#8)
        else (0x01#8, 0xB0#8, 0x00#8, 0x13#8, 0x00#8, 0xD8#8, 0x01#8, 0x4D#8))
    ∧ (s.cpu.sp, s.cpu.pc) = (if b then (0x0000#16, 0x0000#16) else (0xFFFE#16, 0x0100#16))
    ∧ (s.cpu.ime, s.cpu.imePending, s.cpu.halted, s.cpu.haltBug, s.cpu.stopped, s.cpu.fault) =
        (false, false, false, false, false, none)
    ∧ s.intr = { pendingFlags := if b then 0b00000#5 else 0b00001#5, enableMask := 0x00#8 }
    ∧ s.timer = { divCounter := if b then 0x0000#16 else 0xABCC#16, tima := 0#8, tma := 0#8, tac := 0#3, timaSub := 0 }
    ∧ s.serial = { sb := 0x00#8, scStart := false, scClock := false, serialCount := 0, serialOut := [] }
    ∧ s.joypad.sel = 0b11#2 ∧ (∀ k, s.joypad.buttons.get k = false)
    ∧ s.cart = { romBank := 1#7, ramBank := 0#2, ramEnable := false, bankMode := false } ∧ s.bootOverlay = b
    ∧ (s.ppu.mode, s.ppu.ly, s.ppu.dot) = ((if b then Mode.horizontalBlank else Mode.oamSearch), 0#8, 0)
    ∧ (s.ppu.lcdc, s.ppu.statEn, s.ppu.scy, s.ppu.scx, s.ppu.lyc, s.ppu.dma, s.ppu.wy, s.ppu.wx) =
        ((if b then 0x00#8 else 0x91#8), 0#4, 0#8, 0#8, 0#8, 0xFF#8, 0#8, 0#8)
    ∧ (s.ppu.bgp, s.ppu.obp0, s.ppu.obp1) = (if b then (0x00#8, 0x00#8, 0x00#8) else (0xFC#8, 0xFF#8, 0xFF#8))
    ∧ s.ppu.frames = [] ∧ (∀ y x (hy : y < 144) (hx : x < 160), (s.ppu.fb[y])[x] = 0#2)
    ∧ s.mem.vram = [] ∧ s.mem.eram = [] ∧ s.mem.wram = [] ∧ s.mem.oam = [] ∧ s.mem.hram = []
    ∧ s.mem.rom = rom ∧ s.mem.boot = boot ∧ s.params = p)
  ∧ (∀ s : State, ∃ epoch, s.move .reset = State.powerOn s.params s.mem.rom s.mem.boot epoch)
  ∧ ∃ p, State.reset = State.powerOn p [] [] 0

/-! ## The invariant (10_state.md R31) -/

/-- Every step keeps the invariant of the state: memory in canonical form with only cells that exist, `LY` at most 153, `dot`
below the budget of its mode, mode 1 exactly on scanlines 144 to 153 while the LCD is on, the PPU at rest while it is off,
the low bits of the ROM bank never 0, the prescaler and the serial counter in their bounds. -/
def Obligations.StepKeepsInvariant : Prop := ∀ s t : State, s.Inv → step s = .next t → t.Inv

/-- The state after reset meets the invariant. Its parameters and its empty images are the model's choice (log entries 1, 2). -/
def Obligations.ResetMeetsInvariant : Prop := State.reset.Inv

/-- Every host move keeps the invariant. -/
def Obligations.HostMovesKeepInvariant : Prop := ∀ (s : State) (m : HostMove), s.Inv → (s.move m).Inv
end

