-- ==== Sys2Proof/Laws/Memory.lean ====
section
/-! SUPPORT. The laws of the byte arrays: a read after a write, and that every operation keeps the canonical form. -/

namespace Sys2Proof.Machine

/-! ## One array -/

theorem Memory.find_put_same (m : Memory) (a : Nat) (v : Byte) : (m.put a v).find a = some v := by
  induction m with
  | nil => simp [Memory.put, Memory.find]
  | cons c m ih =>
    obtain ⟨k, w⟩ := c
    rw [Memory.put]
    split
    · simp [Memory.find]
    · split
      · simp [Memory.find]
      · rename_i hne
        simp [Memory.find, ih, Ne.symm hne]

theorem Memory.find_put_other (m : Memory) {a b : Nat} (v : Byte) (h : b ≠ a) : (m.put a v).find b = m.find b := by
  induction m with
  | nil => simp [Memory.put, Memory.find, Ne.symm h]
  | cons c m ih =>
    obtain ⟨k, w⟩ := c
    rw [Memory.put]
    split
    · simp [Memory.find, Ne.symm h]
    · split
      · rename_i hk
        subst hk
        simp [Memory.find, Ne.symm h]
      · simp [Memory.find, ih]

theorem Memory.find_forget_other (m : Memory) {a b : Nat} (h : b ≠ a) : (m.forget a).find b = m.find b := by
  induction m with
  | nil => rfl
  | cons c m ih =>
    obtain ⟨k, w⟩ := c
    rw [Memory.forget]
    split
    · rename_i hk
      subst hk
      simp [Memory.find, Ne.symm h]
    · simp [Memory.find, ih]

/-- `Memory.rising` says that offsets rise from each entry to every later one. -/
theorem Memory.rising_iff (m : Memory) : m.rising = true ↔ m.Pairwise fun c d => c.1 < d.1 := by
  induction m with
  | nil => simp [Memory.rising]
  | cons c m ih =>
    rw [Memory.rising, Bool.and_eq_true, ih, List.pairwise_cons]
    refine ⟨fun ⟨hh, hp⟩ => ⟨fun d hd => ?_, hp⟩, fun ⟨hall, hp⟩ => ⟨?_, hp⟩⟩
    · cases m with
      | nil => simp at hd
      | cons e m =>
        have hce : c.1 < e.1 := by simpa using hh
        rcases List.mem_cons.1 hd with rfl | hd
        · exact hce
        · exact Nat.lt_trans hce ((List.pairwise_cons.1 hp).1 d hd)
    · cases m with
      | nil => simp
      | cons e m => simpa using hall e (by simp)

theorem Memory.find_none_of_below (m : Memory) (a : Nat) (h : ∀ c ∈ m, a < c.1) : m.find a = none := by
  induction m with
  | nil => rfl
  | cons c m ih =>
    obtain ⟨k, w⟩ := c
    have hk : a < k := h (k, w) (by simp)
    simp [Memory.find, Nat.ne_of_gt hk, ih fun c hc => h c (by simp [hc])]

theorem Memory.find_forget_same (m : Memory) (a : Nat) (h : m.rising = true) : (m.forget a).find a = none := by
  rw [Memory.rising_iff] at h
  induction m with
  | nil => rfl
  | cons c m ih =>
    obtain ⟨k, w⟩ := c
    rw [List.pairwise_cons] at h
    rw [Memory.forget]
    split
    · rename_i hk
      exact Memory.find_none_of_below m a fun c hc => hk ▸ h.1 c hc
    · rename_i hk
      simp [Memory.find, hk, ih h.2]

theorem Memory.mem_put {m : Memory} {a : Nat} {v : Byte} {c : Host.Cell} (h : c ∈ m.put a v) : c = (a, v) ∨ c ∈ m := by
  induction m with
  | nil => simpa [Memory.put] using h
  | cons e m ih =>
    obtain ⟨k, w⟩ := e
    rw [Memory.put] at h
    split at h
    · simpa using h
    · split at h
      · rcases List.mem_cons.1 h with h | h
        · exact .inl h
        · exact .inr (by simp [h])
      · rcases List.mem_cons.1 h with h | h
        · exact .inr (by simp [h])
        · rcases ih h with h | h
          · exact .inl h
          · exact .inr (by simp [h])

theorem Memory.mem_forget {m : Memory} {a : Nat} {c : Host.Cell} (h : c ∈ m.forget a) : c ∈ m := by
  induction m with
  | nil => exact h
  | cons e m ih =>
    obtain ⟨k, w⟩ := e
    rw [Memory.forget] at h
    split at h
    · exact List.mem_cons_of_mem _ h
    · rcases List.mem_cons.1 h with h | h
      · simp [h]
      · exact List.mem_cons_of_mem _ (ih h)

theorem Memory.put_rising (m : Memory) (a : Nat) (v : Byte) (h : m.rising = true) : (m.put a v).rising = true := by
  rw [Memory.rising_iff] at h ⊢
  induction m with
  | nil => simp [Memory.put]
  | cons c m ih =>
    obtain ⟨k, w⟩ := c
    obtain ⟨hk, hm⟩ := List.pairwise_cons.1 h
    rw [Memory.put]
    split
    · rename_i hak
      refine List.pairwise_cons.2 ⟨fun d hd => ?_, h⟩
      rcases List.mem_cons.1 hd with rfl | hd
      · exact hak
      · exact Nat.lt_trans hak (hk d hd)
    · split
      · rename_i heq
        exact List.pairwise_cons.2 ⟨fun d hd => heq ▸ hk d hd, hm⟩
      · refine List.pairwise_cons.2 ⟨fun d hd => ?_, ih hm⟩
        rcases Memory.mem_put hd with rfl | hd
        · show k < a
          omega
        · exact hk d hd

theorem Memory.forget_rising (m : Memory) (a : Nat) (h : m.rising = true) : (m.forget a).rising = true := by
  rw [Memory.rising_iff] at h ⊢
  induction m with
  | nil => exact h
  | cons c m ih =>
    obtain ⟨k, w⟩ := c
    obtain ⟨hk, hm⟩ := List.pairwise_cons.1 h
    rw [Memory.forget]
    split
    · exact hm
    · exact List.pairwise_cons.2 ⟨fun d hd => hk d (Memory.mem_forget hd), ih hm⟩

theorem Memory.wf_rising {r : Region} {m : Memory} (h : m.wf r = true) : m.rising = true := by
  rw [Memory.wf, Bool.and_eq_true] at h
  exact h.1

theorem Memory.put_wf {r : Region} {m : Memory} (a : Nat) {v : Byte} (hv : Config.blank r ≠ some v)
    (h : m.wf r = true) : (m.put a v).wf r = true := by
  simp only [Memory.wf, Bool.and_eq_true, List.all_eq_true, decide_eq_true_eq] at h ⊢
  refine ⟨Memory.put_rising m a v h.1, fun c hc => ?_⟩
  rcases Memory.mem_put hc with rfl | hc
  · exact hv
  · exact h.2 c hc

theorem Memory.forget_wf {r : Region} {m : Memory} (a : Nat) (h : m.wf r = true) : (m.forget a).wf r = true := by
  simp only [Memory.wf, Bool.and_eq_true, List.all_eq_true, decide_eq_true_eq] at h ⊢
  exact ⟨Memory.forget_rising m a h.1, fun c hc => h.2 c (Memory.mem_forget hc)⟩

theorem Memory.put_within {size : Nat} {m : Memory} {a : Nat} (v : Byte) (ha : a < size)
    (h : m.within size = true) : (m.put a v).within size = true := by
  simp only [Memory.within, List.all_eq_true, decide_eq_true_eq] at h ⊢
  intro c hc
  rcases Memory.mem_put hc with rfl | hc
  · exact ha
  · exact h c hc

theorem Memory.forget_within {size : Nat} {m : Memory} (a : Nat) (h : m.within size = true) :
    (m.forget a).within size = true := by
  simp only [Memory.within, List.all_eq_true, decide_eq_true_eq] at h ⊢
  exact fun c hc => h c (Memory.mem_forget hc)

/-! ## The seven arrays -/

@[simp] theorem Memories.setArray_array (M : Memories) (r : Region) (m : Memory) : (M.setArray r m).array r = m := by
  cases r <;> rfl

theorem Memories.setArray_array_other (M : Memories) {r q : Region} (m : Memory) (h : q ≠ r) :
    (M.setArray r m).array q = M.array q := by
  cases r <;> cases q <;> first | rfl | exact absurd rfl h

@[simp] theorem Memories.setArray_epoch (M : Memories) (r : Region) (m : Memory) : (M.setArray r m).epoch = M.epoch := by
  cases r <;> rfl

@[simp] theorem Memories.write_epoch (M : Memories) (r : Region) (off : Nat) (v : Byte) :
    (M.write r off v).epoch = M.epoch := by
  simp [Memories.write]

/-- All seven arrays, one by one. -/
theorem Memories.wf_iff (M : Memories) : M.wf = true ↔ ∀ r, (M.array r).wf r = true := by
  simp only [Memories.wf, Bool.and_eq_true]
  constructor
  · rintro ⟨⟨⟨⟨⟨⟨h1, h2⟩, h3⟩, h4⟩, h5⟩, h6⟩, h7⟩ r
    cases r <;> assumption
  · intro h
    exact ⟨⟨⟨⟨⟨⟨h .rom, h .boot⟩, h .vram⟩, h .eram⟩, h .wram⟩, h .oam⟩, h .hram⟩

theorem Memories.within_iff (M : Memories) (p : Params) :
    M.within p = true ↔ ∀ r, (M.array r).within (p.sizeOf r) = true := by
  simp only [Memories.within, Bool.and_eq_true]
  constructor
  · rintro ⟨⟨⟨⟨⟨⟨h1, h2⟩, h3⟩, h4⟩, h5⟩, h6⟩, h7⟩ r
    cases r <;> assumption
  · intro h
    exact ⟨⟨⟨⟨⟨⟨h .rom, h .boot⟩, h .vram⟩, h .eram⟩, h .wram⟩, h .oam⟩, h .hram⟩

/-- A write keeps the canonical form. -/
theorem Memories.write_wf (M : Memories) (r : Region) (off : Nat) (v : Byte) (h : M.wf = true) :
    (M.write r off v).wf = true := by
  rw [Memories.wf_iff] at h ⊢
  intro q
  by_cases hq : q = r
  · subst hq
    rw [Memories.write, Memories.setArray_array]
    split
    · exact Memory.forget_wf off (h q)
    · rename_i hv
      exact Memory.put_wf off hv (h q)
  · rw [Memories.write, Memories.setArray_array_other _ _ hq]
    exact h q

theorem Memories.write_within (M : Memories) (p : Params) (r : Region) {off : Nat} (v : Byte) (ho : off < p.sizeOf r)
    (h : M.within p = true) : (M.write r off v).within p = true := by
  rw [Memories.within_iff] at h ⊢
  intro q
  by_cases hq : q = r
  · subst hq
    rw [Memories.write, Memories.setArray_array]
    split
    · exact Memory.forget_within off (h q)
    · exact Memory.put_within v ho (h q)
  · rw [Memories.write, Memories.setArray_array_other _ _ hq]
    exact h q

/-- A read after a write to the same cell gives the value written. -/
theorem Memories.read_write_same (M : Memories) (r : Region) (off : Nat) (v : Byte) (h : M.wf = true) :
    (M.write r off v).read r off = v := by
  rw [Memories.wf_iff] at h
  rw [Memories.read, Memories.write_epoch, Memories.write, Memories.setArray_array]
  split
  · rename_i hb
    rw [Memory.find_forget_same _ _ (Memory.wf_rising (h r))]
    simp [Config.unlisted, hb]
  · rw [Memory.find_put_same]
    rfl

/-- A write leaves every other cell alone. -/
theorem Memories.read_write_other (M : Memories) {r q : Region} {off o : Nat} (v : Byte) (h : (q, o) ≠ (r, off)) :
    (M.write r off v).read q o = M.read q o := by
  rw [Memories.read, Memories.read, Memories.write_epoch, Memories.write]
  by_cases hq : q = r
  · subst hq
    have ho : o ≠ off := fun e => h (by rw [e])
    rw [Memories.setArray_array]
    split
    · rw [Memory.find_forget_other _ ho]
    · rw [Memory.find_put_other _ _ ho]
  · rw [Memories.setArray_array_other _ _ hq]

theorem Memories.write_array_other (M : Memories) {r q : Region} (off : Nat) (v : Byte) (h : q ≠ r) :
    (M.write r off v).array q = M.array q := by
  rw [Memories.write, Memories.setArray_array_other _ _ h]

end Sys2Proof.Machine
end

