-- ==== Sys2Proof/Laws/State.lean ====
section
/-! SUPPORT. One lemma per field per update, all true by unfolding the update once, so that no later proof unfolds a
record update. -/

namespace Sys2Proof.Machine

/-! ## consume -/

@[simp] theorem State.consume_intr (s : State) (n k : Nat) : (s.consume n k).intr = s.intr := rfl
@[simp] theorem State.consume_timer (s : State) (n k : Nat) : (s.consume n k).timer = s.timer := rfl
@[simp] theorem State.consume_serial (s : State) (n k : Nat) : (s.consume n k).serial = s.serial := rfl
@[simp] theorem State.consume_joypad (s : State) (n k : Nat) : (s.consume n k).joypad = s.joypad := rfl
@[simp] theorem State.consume_cart (s : State) (n k : Nat) : (s.consume n k).cart = s.cart := rfl
@[simp] theorem State.consume_bootOverlay (s : State) (n k : Nat) : (s.consume n k).bootOverlay = s.bootOverlay := rfl
@[simp] theorem State.consume_mem (s : State) (n k : Nat) : (s.consume n k).mem = s.mem := rfl
@[simp] theorem State.consume_ppu (s : State) (n k : Nat) : (s.consume n k).ppu = s.ppu := rfl
@[simp] theorem State.consume_params (s : State) (n k : Nat) : (s.consume n k).params = s.params := rfl
@[simp] theorem State.consume_cycles (s : State) (n k : Nat) : (s.consume n k).cycles = k := rfl
@[simp] theorem State.consume_haltBug (s : State) (n k : Nat) : (s.consume n k).cpu.haltBug = false := rfl
@[simp] theorem State.consume_pc (s : State) (n k : Nat) :
    (s.consume n k).cpu.pc = s.cpu.pc + BitVec.ofNat 16 n - (if s.cpu.haltBug then 1#16 else 0#16) := rfl
@[simp] theorem State.consume_a (s : State) (n k : Nat) : (s.consume n k).cpu.a = s.cpu.a := rfl
@[simp] theorem State.consume_flags (s : State) (n k : Nat) : (s.consume n k).cpu.flags = s.cpu.flags := rfl
@[simp] theorem State.consume_b (s : State) (n k : Nat) : (s.consume n k).cpu.b = s.cpu.b := rfl
@[simp] theorem State.consume_c (s : State) (n k : Nat) : (s.consume n k).cpu.c = s.cpu.c := rfl
@[simp] theorem State.consume_d (s : State) (n k : Nat) : (s.consume n k).cpu.d = s.cpu.d := rfl
@[simp] theorem State.consume_e (s : State) (n k : Nat) : (s.consume n k).cpu.e = s.cpu.e := rfl
@[simp] theorem State.consume_h (s : State) (n k : Nat) : (s.consume n k).cpu.h = s.cpu.h := rfl
@[simp] theorem State.consume_l (s : State) (n k : Nat) : (s.consume n k).cpu.l = s.cpu.l := rfl
@[simp] theorem State.consume_sp (s : State) (n k : Nat) : (s.consume n k).cpu.sp = s.cpu.sp := rfl
@[simp] theorem State.consume_ime (s : State) (n k : Nat) : (s.consume n k).cpu.ime = s.cpu.ime := rfl
@[simp] theorem State.consume_imePending (s : State) (n k : Nat) : (s.consume n k).cpu.imePending = s.cpu.imePending := rfl
@[simp] theorem State.consume_halted (s : State) (n k : Nat) : (s.consume n k).cpu.halted = s.cpu.halted := rfl
@[simp] theorem State.consume_stopped (s : State) (n k : Nat) : (s.consume n k).cpu.stopped = s.cpu.stopped := rfl
@[simp] theorem State.consume_fault (s : State) (n k : Nat) : (s.consume n k).cpu.fault = s.cpu.fault := rfl
@[simp] theorem State.consume_reg (s : State) (n k : Nat) (r : Reg8) : (s.consume n k).cpu.reg r = s.cpu.reg r := by
  cases r <;> rfl
@[simp] theorem State.consume_hl (s : State) (n k : Nat) : (s.consume n k).cpu.hl = s.cpu.hl := rfl
@[simp] theorem State.consume_pair (s : State) (n k : Nat) (p : Pair) : (s.consume n k).cpu.pair p = s.cpu.pair p := by
  cases p <;> rfl

/-! ## mapCpu, setFlags, setResult -/

@[simp] theorem State.mapCpu_intr (s : State) (f : CpuState → CpuState) : (s.mapCpu f).intr = s.intr := rfl
@[simp] theorem State.mapCpu_timer (s : State) (f : CpuState → CpuState) : (s.mapCpu f).timer = s.timer := rfl
@[simp] theorem State.mapCpu_serial (s : State) (f : CpuState → CpuState) : (s.mapCpu f).serial = s.serial := rfl
@[simp] theorem State.mapCpu_joypad (s : State) (f : CpuState → CpuState) : (s.mapCpu f).joypad = s.joypad := rfl
@[simp] theorem State.mapCpu_cart (s : State) (f : CpuState → CpuState) : (s.mapCpu f).cart = s.cart := rfl
@[simp] theorem State.mapCpu_bootOverlay (s : State) (f : CpuState → CpuState) : (s.mapCpu f).bootOverlay = s.bootOverlay := rfl
@[simp] theorem State.mapCpu_mem (s : State) (f : CpuState → CpuState) : (s.mapCpu f).mem = s.mem := rfl
@[simp] theorem State.mapCpu_ppu (s : State) (f : CpuState → CpuState) : (s.mapCpu f).ppu = s.ppu := rfl
@[simp] theorem State.mapCpu_params (s : State) (f : CpuState → CpuState) : (s.mapCpu f).params = s.params := rfl
@[simp] theorem State.mapCpu_cycles (s : State) (f : CpuState → CpuState) : (s.mapCpu f).cycles = s.cycles := rfl
@[simp] theorem State.mapCpu_cpu (s : State) (f : CpuState → CpuState) : (s.mapCpu f).cpu = f s.cpu := rfl

@[simp] theorem State.setFlags_intr (s : State) (f : Flags) : (s.setFlags f).intr = s.intr := rfl
@[simp] theorem State.setFlags_timer (s : State) (f : Flags) : (s.setFlags f).timer = s.timer := rfl
@[simp] theorem State.setFlags_serial (s : State) (f : Flags) : (s.setFlags f).serial = s.serial := rfl
@[simp] theorem State.setFlags_joypad (s : State) (f : Flags) : (s.setFlags f).joypad = s.joypad := rfl
@[simp] theorem State.setFlags_cart (s : State) (f : Flags) : (s.setFlags f).cart = s.cart := rfl
@[simp] theorem State.setFlags_bootOverlay (s : State) (f : Flags) : (s.setFlags f).bootOverlay = s.bootOverlay := rfl
@[simp] theorem State.setFlags_mem (s : State) (f : Flags) : (s.setFlags f).mem = s.mem := rfl
@[simp] theorem State.setFlags_ppu (s : State) (f : Flags) : (s.setFlags f).ppu = s.ppu := rfl
@[simp] theorem State.setFlags_params (s : State) (f : Flags) : (s.setFlags f).params = s.params := rfl
@[simp] theorem State.setFlags_cycles (s : State) (f : Flags) : (s.setFlags f).cycles = s.cycles := rfl
@[simp] theorem State.setFlags_cpu (s : State) (f : Flags) : (s.setFlags f).cpu = { s.cpu with flags := f } := rfl

@[simp] theorem State.setResult_intr (s : State) (r : Result8) : (s.setResult r).intr = s.intr := rfl
@[simp] theorem State.setResult_timer (s : State) (r : Result8) : (s.setResult r).timer = s.timer := rfl
@[simp] theorem State.setResult_serial (s : State) (r : Result8) : (s.setResult r).serial = s.serial := rfl
@[simp] theorem State.setResult_joypad (s : State) (r : Result8) : (s.setResult r).joypad = s.joypad := rfl
@[simp] theorem State.setResult_cart (s : State) (r : Result8) : (s.setResult r).cart = s.cart := rfl
@[simp] theorem State.setResult_bootOverlay (s : State) (r : Result8) : (s.setResult r).bootOverlay = s.bootOverlay := rfl
@[simp] theorem State.setResult_mem (s : State) (r : Result8) : (s.setResult r).mem = s.mem := rfl
@[simp] theorem State.setResult_ppu (s : State) (r : Result8) : (s.setResult r).ppu = s.ppu := rfl
@[simp] theorem State.setResult_params (s : State) (r : Result8) : (s.setResult r).params = s.params := rfl
@[simp] theorem State.setResult_cycles (s : State) (r : Result8) : (s.setResult r).cycles = s.cycles := rfl
@[simp] theorem State.setResult_cpu (s : State) (r : Result8) :
    (s.setResult r).cpu = { s.cpu with a := r.val, flags := r.flags } := rfl

/-! ## jump, popped -/

@[simp] theorem State.jump_intr (s : State) (v : Word) : (s.jump v).intr = s.intr := rfl
@[simp] theorem State.jump_timer (s : State) (v : Word) : (s.jump v).timer = s.timer := rfl
@[simp] theorem State.jump_serial (s : State) (v : Word) : (s.jump v).serial = s.serial := rfl
@[simp] theorem State.jump_joypad (s : State) (v : Word) : (s.jump v).joypad = s.joypad := rfl
@[simp] theorem State.jump_cart (s : State) (v : Word) : (s.jump v).cart = s.cart := rfl
@[simp] theorem State.jump_bootOverlay (s : State) (v : Word) : (s.jump v).bootOverlay = s.bootOverlay := rfl
@[simp] theorem State.jump_mem (s : State) (v : Word) : (s.jump v).mem = s.mem := rfl
@[simp] theorem State.jump_ppu (s : State) (v : Word) : (s.jump v).ppu = s.ppu := rfl
@[simp] theorem State.jump_params (s : State) (v : Word) : (s.jump v).params = s.params := rfl
@[simp] theorem State.jump_cycles (s : State) (v : Word) : (s.jump v).cycles = s.cycles := rfl
@[simp] theorem State.jump_cpu (s : State) (v : Word) : (s.jump v).cpu = { s.cpu with pc := v } := rfl

@[simp] theorem State.popped_intr (s : State)  : (s.popped).intr = s.intr := rfl
@[simp] theorem State.popped_timer (s : State)  : (s.popped).timer = s.timer := rfl
@[simp] theorem State.popped_serial (s : State)  : (s.popped).serial = s.serial := rfl
@[simp] theorem State.popped_joypad (s : State)  : (s.popped).joypad = s.joypad := rfl
@[simp] theorem State.popped_cart (s : State)  : (s.popped).cart = s.cart := rfl
@[simp] theorem State.popped_bootOverlay (s : State)  : (s.popped).bootOverlay = s.bootOverlay := rfl
@[simp] theorem State.popped_mem (s : State)  : (s.popped).mem = s.mem := rfl
@[simp] theorem State.popped_ppu (s : State)  : (s.popped).ppu = s.ppu := rfl
@[simp] theorem State.popped_params (s : State)  : (s.popped).params = s.params := rfl
@[simp] theorem State.popped_cycles (s : State)  : (s.popped).cycles = s.cycles := rfl
@[simp] theorem State.popped_cpu (s : State) : s.popped.cpu = { s.cpu with sp := s.cpu.sp + 2#16 } := rfl

/-! ## writeCell, request -/

@[simp] theorem State.writeCell_cpu (s : State) (r : Region) (off : Nat) (v : Byte) : (s.writeCell r off v).cpu = s.cpu := rfl
@[simp] theorem State.writeCell_intr (s : State) (r : Region) (off : Nat) (v : Byte) : (s.writeCell r off v).intr = s.intr := rfl
@[simp] theorem State.writeCell_timer (s : State) (r : Region) (off : Nat) (v : Byte) : (s.writeCell r off v).timer = s.timer := rfl
@[simp] theorem State.writeCell_serial (s : State) (r : Region) (off : Nat) (v : Byte) : (s.writeCell r off v).serial = s.serial := rfl
@[simp] theorem State.writeCell_joypad (s : State) (r : Region) (off : Nat) (v : Byte) : (s.writeCell r off v).joypad = s.joypad := rfl
@[simp] theorem State.writeCell_cart (s : State) (r : Region) (off : Nat) (v : Byte) : (s.writeCell r off v).cart = s.cart := rfl
@[simp] theorem State.writeCell_bootOverlay (s : State) (r : Region) (off : Nat) (v : Byte) : (s.writeCell r off v).bootOverlay = s.bootOverlay := rfl
@[simp] theorem State.writeCell_ppu (s : State) (r : Region) (off : Nat) (v : Byte) : (s.writeCell r off v).ppu = s.ppu := rfl
@[simp] theorem State.writeCell_params (s : State) (r : Region) (off : Nat) (v : Byte) : (s.writeCell r off v).params = s.params := rfl
@[simp] theorem State.writeCell_cycles (s : State) (r : Region) (off : Nat) (v : Byte) : (s.writeCell r off v).cycles = s.cycles := rfl
@[simp] theorem State.writeCell_mem (s : State) (r : Region) (off : Nat) (v : Byte) :
    (s.writeCell r off v).mem = s.mem.write r off v := rfl

@[simp] theorem State.request_cpu (s : State) (n : IntSource) : (s.request n).cpu = s.cpu := rfl
@[simp] theorem State.request_timer (s : State) (n : IntSource) : (s.request n).timer = s.timer := rfl
@[simp] theorem State.request_serial (s : State) (n : IntSource) : (s.request n).serial = s.serial := rfl
@[simp] theorem State.request_joypad (s : State) (n : IntSource) : (s.request n).joypad = s.joypad := rfl
@[simp] theorem State.request_cart (s : State) (n : IntSource) : (s.request n).cart = s.cart := rfl
@[simp] theorem State.request_bootOverlay (s : State) (n : IntSource) : (s.request n).bootOverlay = s.bootOverlay := rfl
@[simp] theorem State.request_mem (s : State) (n : IntSource) : (s.request n).mem = s.mem := rfl
@[simp] theorem State.request_ppu (s : State) (n : IntSource) : (s.request n).ppu = s.ppu := rfl
@[simp] theorem State.request_params (s : State) (n : IntSource) : (s.request n).params = s.params := rfl
@[simp] theorem State.request_cycles (s : State) (n : IntSource) : (s.request n).cycles = s.cycles := rfl
@[simp] theorem State.request_enableMask (s : State) (n : IntSource) :
    (s.request n).intr.enableMask = s.intr.enableMask := rfl
@[simp] theorem State.request_pendingFlags (s : State) (n : IntSource) :
    (s.request n).intr.pendingFlags = s.intr.pendingFlags ||| n.mask := rfl

/-! ## delayedEnable -/

@[simp] theorem State.delayedEnable_intr (s : State) : s.delayedEnable.intr = s.intr := by
  unfold State.delayedEnable; split <;> rfl
@[simp] theorem State.delayedEnable_timer (s : State) : s.delayedEnable.timer = s.timer := by
  unfold State.delayedEnable; split <;> rfl
@[simp] theorem State.delayedEnable_serial (s : State) : s.delayedEnable.serial = s.serial := by
  unfold State.delayedEnable; split <;> rfl
@[simp] theorem State.delayedEnable_joypad (s : State) : s.delayedEnable.joypad = s.joypad := by
  unfold State.delayedEnable; split <;> rfl
@[simp] theorem State.delayedEnable_cart (s : State) : s.delayedEnable.cart = s.cart := by
  unfold State.delayedEnable; split <;> rfl
@[simp] theorem State.delayedEnable_bootOverlay (s : State) : s.delayedEnable.bootOverlay = s.bootOverlay := by
  unfold State.delayedEnable; split <;> rfl
@[simp] theorem State.delayedEnable_mem (s : State) : s.delayedEnable.mem = s.mem := by
  unfold State.delayedEnable; split <;> rfl
@[simp] theorem State.delayedEnable_ppu (s : State) : s.delayedEnable.ppu = s.ppu := by
  unfold State.delayedEnable; split <;> rfl
@[simp] theorem State.delayedEnable_params (s : State) : s.delayedEnable.params = s.params := by
  unfold State.delayedEnable; split <;> rfl
@[simp] theorem State.delayedEnable_cycles (s : State) : s.delayedEnable.cycles = s.cycles := by
  unfold State.delayedEnable; split <;> rfl
@[simp] theorem State.delayedEnable_a (s : State) : s.delayedEnable.cpu.a = s.cpu.a := by
  unfold State.delayedEnable; split <;> rfl
@[simp] theorem State.delayedEnable_flags (s : State) : s.delayedEnable.cpu.flags = s.cpu.flags := by
  unfold State.delayedEnable; split <;> rfl
@[simp] theorem State.delayedEnable_b (s : State) : s.delayedEnable.cpu.b = s.cpu.b := by
  unfold State.delayedEnable; split <;> rfl
@[simp] theorem State.delayedEnable_c (s : State) : s.delayedEnable.cpu.c = s.cpu.c := by
  unfold State.delayedEnable; split <;> rfl
@[simp] theorem State.delayedEnable_d (s : State) : s.delayedEnable.cpu.d = s.cpu.d := by
  unfold State.delayedEnable; split <;> rfl
@[simp] theorem State.delayedEnable_e (s : State) : s.delayedEnable.cpu.e = s.cpu.e := by
  unfold State.delayedEnable; split <;> rfl
@[simp] theorem State.delayedEnable_h (s : State) : s.delayedEnable.cpu.h = s.cpu.h := by
  unfold State.delayedEnable; split <;> rfl
@[simp] theorem State.delayedEnable_l (s : State) : s.delayedEnable.cpu.l = s.cpu.l := by
  unfold State.delayedEnable; split <;> rfl
@[simp] theorem State.delayedEnable_pc (s : State) : s.delayedEnable.cpu.pc = s.cpu.pc := by
  unfold State.delayedEnable; split <;> rfl
@[simp] theorem State.delayedEnable_sp (s : State) : s.delayedEnable.cpu.sp = s.cpu.sp := by
  unfold State.delayedEnable; split <;> rfl
@[simp] theorem State.delayedEnable_halted (s : State) : s.delayedEnable.cpu.halted = s.cpu.halted := by
  unfold State.delayedEnable; split <;> rfl
@[simp] theorem State.delayedEnable_haltBug (s : State) : s.delayedEnable.cpu.haltBug = s.cpu.haltBug := by
  unfold State.delayedEnable; split <;> rfl
@[simp] theorem State.delayedEnable_stopped (s : State) : s.delayedEnable.cpu.stopped = s.cpu.stopped := by
  unfold State.delayedEnable; split <;> rfl
@[simp] theorem State.delayedEnable_fault (s : State) : s.delayedEnable.cpu.fault = s.cpu.fault := by
  unfold State.delayedEnable; split <;> rfl
@[simp] theorem State.delayedEnable_ime (s : State) : s.delayedEnable.cpu.ime = (s.cpu.ime || s.cpu.imePending) := by
  unfold State.delayedEnable; split <;> simp [*]
@[simp] theorem State.delayedEnable_imePending (s : State) : s.delayedEnable.cpu.imePending = false := by
  unfold State.delayedEnable; split <;> simp_all

/-! ## PPU updates -/

@[simp] theorem State.enterMode_cpu (s : State) (m : Mode) : (s.enterMode m).cpu = s.cpu := rfl
@[simp] theorem State.enterMode_intr (s : State) (m : Mode) : (s.enterMode m).intr = s.intr := rfl
@[simp] theorem State.enterMode_timer (s : State) (m : Mode) : (s.enterMode m).timer = s.timer := rfl
@[simp] theorem State.enterMode_serial (s : State) (m : Mode) : (s.enterMode m).serial = s.serial := rfl
@[simp] theorem State.enterMode_joypad (s : State) (m : Mode) : (s.enterMode m).joypad = s.joypad := rfl
@[simp] theorem State.enterMode_cart (s : State) (m : Mode) : (s.enterMode m).cart = s.cart := rfl
@[simp] theorem State.enterMode_bootOverlay (s : State) (m : Mode) : (s.enterMode m).bootOverlay = s.bootOverlay := rfl
@[simp] theorem State.enterMode_mem (s : State) (m : Mode) : (s.enterMode m).mem = s.mem := rfl
@[simp] theorem State.enterMode_params (s : State) (m : Mode) : (s.enterMode m).params = s.params := rfl
@[simp] theorem State.enterMode_cycles (s : State) (m : Mode) : (s.enterMode m).cycles = s.cycles := rfl

@[simp] theorem State.setLy_cpu (s : State) (v : Byte) : (s.setLy v).cpu = s.cpu := rfl
@[simp] theorem State.setLy_intr (s : State) (v : Byte) : (s.setLy v).intr = s.intr := rfl
@[simp] theorem State.setLy_timer (s : State) (v : Byte) : (s.setLy v).timer = s.timer := rfl
@[simp] theorem State.setLy_serial (s : State) (v : Byte) : (s.setLy v).serial = s.serial := rfl
@[simp] theorem State.setLy_joypad (s : State) (v : Byte) : (s.setLy v).joypad = s.joypad := rfl
@[simp] theorem State.setLy_cart (s : State) (v : Byte) : (s.setLy v).cart = s.cart := rfl
@[simp] theorem State.setLy_bootOverlay (s : State) (v : Byte) : (s.setLy v).bootOverlay = s.bootOverlay := rfl
@[simp] theorem State.setLy_mem (s : State) (v : Byte) : (s.setLy v).mem = s.mem := rfl
@[simp] theorem State.setLy_params (s : State) (v : Byte) : (s.setLy v).params = s.params := rfl
@[simp] theorem State.setLy_cycles (s : State) (v : Byte) : (s.setLy v).cycles = s.cycles := rfl

@[simp] theorem State.renderScanline_cpu (s : State)  : (s.renderScanline).cpu = s.cpu := rfl
@[simp] theorem State.renderScanline_intr (s : State)  : (s.renderScanline).intr = s.intr := rfl
@[simp] theorem State.renderScanline_timer (s : State)  : (s.renderScanline).timer = s.timer := rfl
@[simp] theorem State.renderScanline_serial (s : State)  : (s.renderScanline).serial = s.serial := rfl
@[simp] theorem State.renderScanline_joypad (s : State)  : (s.renderScanline).joypad = s.joypad := rfl
@[simp] theorem State.renderScanline_cart (s : State)  : (s.renderScanline).cart = s.cart := rfl
@[simp] theorem State.renderScanline_bootOverlay (s : State)  : (s.renderScanline).bootOverlay = s.bootOverlay := rfl
@[simp] theorem State.renderScanline_mem (s : State)  : (s.renderScanline).mem = s.mem := rfl
@[simp] theorem State.renderScanline_params (s : State)  : (s.renderScanline).params = s.params := rfl
@[simp] theorem State.renderScanline_cycles (s : State)  : (s.renderScanline).cycles = s.cycles := rfl

@[simp] theorem State.publishFrame_cpu (s : State)  : (s.publishFrame).cpu = s.cpu := rfl
@[simp] theorem State.publishFrame_intr (s : State)  : (s.publishFrame).intr = s.intr := rfl
@[simp] theorem State.publishFrame_timer (s : State)  : (s.publishFrame).timer = s.timer := rfl
@[simp] theorem State.publishFrame_serial (s : State)  : (s.publishFrame).serial = s.serial := rfl
@[simp] theorem State.publishFrame_joypad (s : State)  : (s.publishFrame).joypad = s.joypad := rfl
@[simp] theorem State.publishFrame_cart (s : State)  : (s.publishFrame).cart = s.cart := rfl
@[simp] theorem State.publishFrame_bootOverlay (s : State)  : (s.publishFrame).bootOverlay = s.bootOverlay := rfl
@[simp] theorem State.publishFrame_mem (s : State)  : (s.publishFrame).mem = s.mem := rfl
@[simp] theorem State.publishFrame_params (s : State)  : (s.publishFrame).params = s.params := rfl
@[simp] theorem State.publishFrame_cycles (s : State)  : (s.publishFrame).cycles = s.cycles := rfl

@[simp] theorem State.enterMode_ppu_ly (s : State) (m : Mode) : (s.enterMode m).ppu.ly = s.ppu.ly := rfl
@[simp] theorem State.enterMode_ppu_fb (s : State) (m : Mode) : (s.enterMode m).ppu.fb = s.ppu.fb := rfl
@[simp] theorem State.enterMode_ppu_frames (s : State) (m : Mode) : (s.enterMode m).ppu.frames = s.ppu.frames := rfl
@[simp] theorem State.enterMode_ppu_lcdc (s : State) (m : Mode) : (s.enterMode m).ppu.lcdc = s.ppu.lcdc := rfl
@[simp] theorem State.enterMode_ppu_statEn (s : State) (m : Mode) : (s.enterMode m).ppu.statEn = s.ppu.statEn := rfl
@[simp] theorem State.enterMode_ppu_scy (s : State) (m : Mode) : (s.enterMode m).ppu.scy = s.ppu.scy := rfl
@[simp] theorem State.enterMode_ppu_scx (s : State) (m : Mode) : (s.enterMode m).ppu.scx = s.ppu.scx := rfl
@[simp] theorem State.enterMode_ppu_lyc (s : State) (m : Mode) : (s.enterMode m).ppu.lyc = s.ppu.lyc := rfl
@[simp] theorem State.enterMode_ppu_dma (s : State) (m : Mode) : (s.enterMode m).ppu.dma = s.ppu.dma := rfl
@[simp] theorem State.enterMode_ppu_bgp (s : State) (m : Mode) : (s.enterMode m).ppu.bgp = s.ppu.bgp := rfl
@[simp] theorem State.enterMode_ppu_obp0 (s : State) (m : Mode) : (s.enterMode m).ppu.obp0 = s.ppu.obp0 := rfl
@[simp] theorem State.enterMode_ppu_obp1 (s : State) (m : Mode) : (s.enterMode m).ppu.obp1 = s.ppu.obp1 := rfl
@[simp] theorem State.enterMode_ppu_wy (s : State) (m : Mode) : (s.enterMode m).ppu.wy = s.ppu.wy := rfl
@[simp] theorem State.enterMode_ppu_wx (s : State) (m : Mode) : (s.enterMode m).ppu.wx = s.ppu.wx := rfl
@[simp] theorem State.setLy_ppu_mode (s : State) (v : Byte) : (s.setLy v).ppu.mode = s.ppu.mode := rfl
@[simp] theorem State.setLy_ppu_dot (s : State) (v : Byte) : (s.setLy v).ppu.dot = s.ppu.dot := rfl
@[simp] theorem State.setLy_ppu_fb (s : State) (v : Byte) : (s.setLy v).ppu.fb = s.ppu.fb := rfl
@[simp] theorem State.setLy_ppu_frames (s : State) (v : Byte) : (s.setLy v).ppu.frames = s.ppu.frames := rfl
@[simp] theorem State.setLy_ppu_lcdc (s : State) (v : Byte) : (s.setLy v).ppu.lcdc = s.ppu.lcdc := rfl
@[simp] theorem State.setLy_ppu_statEn (s : State) (v : Byte) : (s.setLy v).ppu.statEn = s.ppu.statEn := rfl
@[simp] theorem State.setLy_ppu_scy (s : State) (v : Byte) : (s.setLy v).ppu.scy = s.ppu.scy := rfl
@[simp] theorem State.setLy_ppu_scx (s : State) (v : Byte) : (s.setLy v).ppu.scx = s.ppu.scx := rfl
@[simp] theorem State.setLy_ppu_lyc (s : State) (v : Byte) : (s.setLy v).ppu.lyc = s.ppu.lyc := rfl
@[simp] theorem State.setLy_ppu_dma (s : State) (v : Byte) : (s.setLy v).ppu.dma = s.ppu.dma := rfl
@[simp] theorem State.setLy_ppu_bgp (s : State) (v : Byte) : (s.setLy v).ppu.bgp = s.ppu.bgp := rfl
@[simp] theorem State.setLy_ppu_obp0 (s : State) (v : Byte) : (s.setLy v).ppu.obp0 = s.ppu.obp0 := rfl
@[simp] theorem State.setLy_ppu_obp1 (s : State) (v : Byte) : (s.setLy v).ppu.obp1 = s.ppu.obp1 := rfl
@[simp] theorem State.setLy_ppu_wy (s : State) (v : Byte) : (s.setLy v).ppu.wy = s.ppu.wy := rfl
@[simp] theorem State.setLy_ppu_wx (s : State) (v : Byte) : (s.setLy v).ppu.wx = s.ppu.wx := rfl
@[simp] theorem State.renderScanline_ppu_mode (s : State)  : (s.renderScanline).ppu.mode = s.ppu.mode := rfl
@[simp] theorem State.renderScanline_ppu_ly (s : State)  : (s.renderScanline).ppu.ly = s.ppu.ly := rfl
@[simp] theorem State.renderScanline_ppu_dot (s : State)  : (s.renderScanline).ppu.dot = s.ppu.dot := rfl
@[simp] theorem State.renderScanline_ppu_frames (s : State)  : (s.renderScanline).ppu.frames = s.ppu.frames := rfl
@[simp] theorem State.renderScanline_ppu_lcdc (s : State)  : (s.renderScanline).ppu.lcdc = s.ppu.lcdc := rfl
@[simp] theorem State.renderScanline_ppu_statEn (s : State)  : (s.renderScanline).ppu.statEn = s.ppu.statEn := rfl
@[simp] theorem State.renderScanline_ppu_scy (s : State)  : (s.renderScanline).ppu.scy = s.ppu.scy := rfl
@[simp] theorem State.renderScanline_ppu_scx (s : State)  : (s.renderScanline).ppu.scx = s.ppu.scx := rfl
@[simp] theorem State.renderScanline_ppu_lyc (s : State)  : (s.renderScanline).ppu.lyc = s.ppu.lyc := rfl
@[simp] theorem State.renderScanline_ppu_dma (s : State)  : (s.renderScanline).ppu.dma = s.ppu.dma := rfl
@[simp] theorem State.renderScanline_ppu_bgp (s : State)  : (s.renderScanline).ppu.bgp = s.ppu.bgp := rfl
@[simp] theorem State.renderScanline_ppu_obp0 (s : State)  : (s.renderScanline).ppu.obp0 = s.ppu.obp0 := rfl
@[simp] theorem State.renderScanline_ppu_obp1 (s : State)  : (s.renderScanline).ppu.obp1 = s.ppu.obp1 := rfl
@[simp] theorem State.renderScanline_ppu_wy (s : State)  : (s.renderScanline).ppu.wy = s.ppu.wy := rfl
@[simp] theorem State.renderScanline_ppu_wx (s : State)  : (s.renderScanline).ppu.wx = s.ppu.wx := rfl
@[simp] theorem State.publishFrame_ppu_mode (s : State)  : (s.publishFrame).ppu.mode = s.ppu.mode := rfl
@[simp] theorem State.publishFrame_ppu_ly (s : State)  : (s.publishFrame).ppu.ly = s.ppu.ly := rfl
@[simp] theorem State.publishFrame_ppu_dot (s : State)  : (s.publishFrame).ppu.dot = s.ppu.dot := rfl
@[simp] theorem State.publishFrame_ppu_fb (s : State)  : (s.publishFrame).ppu.fb = s.ppu.fb := rfl
@[simp] theorem State.publishFrame_ppu_lcdc (s : State)  : (s.publishFrame).ppu.lcdc = s.ppu.lcdc := rfl
@[simp] theorem State.publishFrame_ppu_statEn (s : State)  : (s.publishFrame).ppu.statEn = s.ppu.statEn := rfl
@[simp] theorem State.publishFrame_ppu_scy (s : State)  : (s.publishFrame).ppu.scy = s.ppu.scy := rfl
@[simp] theorem State.publishFrame_ppu_scx (s : State)  : (s.publishFrame).ppu.scx = s.ppu.scx := rfl
@[simp] theorem State.publishFrame_ppu_lyc (s : State)  : (s.publishFrame).ppu.lyc = s.ppu.lyc := rfl
@[simp] theorem State.publishFrame_ppu_dma (s : State)  : (s.publishFrame).ppu.dma = s.ppu.dma := rfl
@[simp] theorem State.publishFrame_ppu_bgp (s : State)  : (s.publishFrame).ppu.bgp = s.ppu.bgp := rfl
@[simp] theorem State.publishFrame_ppu_obp0 (s : State)  : (s.publishFrame).ppu.obp0 = s.ppu.obp0 := rfl
@[simp] theorem State.publishFrame_ppu_obp1 (s : State)  : (s.publishFrame).ppu.obp1 = s.ppu.obp1 := rfl
@[simp] theorem State.publishFrame_ppu_wy (s : State)  : (s.publishFrame).ppu.wy = s.ppu.wy := rfl
@[simp] theorem State.publishFrame_ppu_wx (s : State)  : (s.publishFrame).ppu.wx = s.ppu.wx := rfl
@[simp] theorem State.enterMode_ppu_mode (s : State) (m : Mode) : (s.enterMode m).ppu.mode = m := rfl
@[simp] theorem State.enterMode_ppu_dot (s : State) (m : Mode) : (s.enterMode m).ppu.dot = 0 := rfl
@[simp] theorem State.setLy_ppu_ly (s : State) (v : Byte) : (s.setLy v).ppu.ly = v := rfl

@[simp] theorem State.statIf_cpu (s : State) (k : Nat) : (s.statIf k).cpu = s.cpu := by
  unfold State.statIf; split <;> rfl
@[simp] theorem State.statIf_timer (s : State) (k : Nat) : (s.statIf k).timer = s.timer := by
  unfold State.statIf; split <;> rfl
@[simp] theorem State.statIf_serial (s : State) (k : Nat) : (s.statIf k).serial = s.serial := by
  unfold State.statIf; split <;> rfl
@[simp] theorem State.statIf_joypad (s : State) (k : Nat) : (s.statIf k).joypad = s.joypad := by
  unfold State.statIf; split <;> rfl
@[simp] theorem State.statIf_cart (s : State) (k : Nat) : (s.statIf k).cart = s.cart := by
  unfold State.statIf; split <;> rfl
@[simp] theorem State.statIf_bootOverlay (s : State) (k : Nat) : (s.statIf k).bootOverlay = s.bootOverlay := by
  unfold State.statIf; split <;> rfl
@[simp] theorem State.statIf_mem (s : State) (k : Nat) : (s.statIf k).mem = s.mem := by
  unfold State.statIf; split <;> rfl
@[simp] theorem State.statIf_ppu (s : State) (k : Nat) : (s.statIf k).ppu = s.ppu := by
  unfold State.statIf; split <;> rfl
@[simp] theorem State.statIf_params (s : State) (k : Nat) : (s.statIf k).params = s.params := by
  unfold State.statIf; split <;> rfl
@[simp] theorem State.statIf_cycles (s : State) (k : Nat) : (s.statIf k).cycles = s.cycles := by
  unfold State.statIf; split <;> rfl
@[simp] theorem State.statIf_enableMask (s : State) (k : Nat) : (s.statIf k).intr.enableMask = s.intr.enableMask := by
  unfold State.statIf; split <;> rfl
@[simp] theorem State.lycCheck_cpu (s : State)  : (s.lycCheck).cpu = s.cpu := by
  unfold State.lycCheck; split <;> simp
@[simp] theorem State.lycCheck_timer (s : State)  : (s.lycCheck).timer = s.timer := by
  unfold State.lycCheck; split <;> simp
@[simp] theorem State.lycCheck_serial (s : State)  : (s.lycCheck).serial = s.serial := by
  unfold State.lycCheck; split <;> simp
@[simp] theorem State.lycCheck_joypad (s : State)  : (s.lycCheck).joypad = s.joypad := by
  unfold State.lycCheck; split <;> simp
@[simp] theorem State.lycCheck_cart (s : State)  : (s.lycCheck).cart = s.cart := by
  unfold State.lycCheck; split <;> simp
@[simp] theorem State.lycCheck_bootOverlay (s : State)  : (s.lycCheck).bootOverlay = s.bootOverlay := by
  unfold State.lycCheck; split <;> simp
@[simp] theorem State.lycCheck_mem (s : State)  : (s.lycCheck).mem = s.mem := by
  unfold State.lycCheck; split <;> simp
@[simp] theorem State.lycCheck_ppu (s : State)  : (s.lycCheck).ppu = s.ppu := by
  unfold State.lycCheck; split <;> simp
@[simp] theorem State.lycCheck_params (s : State)  : (s.lycCheck).params = s.params := by
  unfold State.lycCheck; split <;> simp
@[simp] theorem State.lycCheck_cycles (s : State)  : (s.lycCheck).cycles = s.cycles := by
  unfold State.lycCheck; split <;> simp
@[simp] theorem State.lycCheck_enableMask (s : State)  : (s.lycCheck).intr.enableMask = s.intr.enableMask := by
  unfold State.lycCheck; split <;> simp

end Sys2Proof.Machine
end

