-- ==== Sys2Proof/Laws/Bus.lean ====
section
/-! SUPPORT. What the bus can do, said once: a write never touches the registers of the CPU, the parameters or the images;
what it does to memory; that it keeps the invariant; that a read depends on devices and memory alone. -/

namespace Sys2Proof.Machine

/-! ## The sprite-memory copy -/

@[simp] theorem State.dmaBytes_cpu (s : State) (v : Byte) (n : Nat) : (s.dmaBytes v n).cpu = s.cpu := by
  induction n with
  | zero => rfl
  | succ n ih => exact ih

@[simp] theorem State.dmaBytes_intr (s : State) (v : Byte) (n : Nat) : (s.dmaBytes v n).intr = s.intr := by
  induction n with
  | zero => rfl
  | succ n ih => exact ih

@[simp] theorem State.dmaBytes_timer (s : State) (v : Byte) (n : Nat) : (s.dmaBytes v n).timer = s.timer := by
  induction n with
  | zero => rfl
  | succ n ih => exact ih

@[simp] theorem State.dmaBytes_serial (s : State) (v : Byte) (n : Nat) : (s.dmaBytes v n).serial = s.serial := by
  induction n with
  | zero => rfl
  | succ n ih => exact ih

@[simp] theorem State.dmaBytes_joypad (s : State) (v : Byte) (n : Nat) : (s.dmaBytes v n).joypad = s.joypad := by
  induction n with
  | zero => rfl
  | succ n ih => exact ih

@[simp] theorem State.dmaBytes_cart (s : State) (v : Byte) (n : Nat) : (s.dmaBytes v n).cart = s.cart := by
  induction n with
  | zero => rfl
  | succ n ih => exact ih

@[simp] theorem State.dmaBytes_bootOverlay (s : State) (v : Byte) (n : Nat) :
    (s.dmaBytes v n).bootOverlay = s.bootOverlay := by
  induction n with
  | zero => rfl
  | succ n ih => exact ih

@[simp] theorem State.dmaBytes_ppu (s : State) (v : Byte) (n : Nat) : (s.dmaBytes v n).ppu = s.ppu := by
  induction n with
  | zero => rfl
  | succ n ih => exact ih

@[simp] theorem State.dmaBytes_params (s : State) (v : Byte) (n : Nat) : (s.dmaBytes v n).params = s.params := by
  induction n with
  | zero => rfl
  | succ n ih => exact ih

@[simp] theorem State.dmaBytes_cycles (s : State) (v : Byte) (n : Nat) : (s.dmaBytes v n).cycles = s.cycles := by
  induction n with
  | zero => rfl
  | succ n ih => exact ih

/-! ## Reads -/

/-- The owner of an address depends on parameters, overlay and cartridge registers alone. -/
theorem State.place_congr {s t : State} (hp : t.params = s.params) (hb : t.bootOverlay = s.bootOverlay)
    (hc : t.cart = s.cart) (a : Word) : t.place a = s.place a := by
  simp only [State.place, State.romIndex, State.ramIndex, State.romAt, hp, hb, hc]

/-- The gate depends on the PPU alone. -/
theorem State.denied_congr {s t : State} (h : t.ppu = s.ppu) (a : Word) : t.denied a = s.denied a := by
  simp only [State.denied, State.vramDenied, State.oamDenied, State.lcdOn, h]

/-- A register's read value depends on the devices alone. -/
theorem State.ioRead_congr {s t : State} (h : SameDevices s t) (r : IoReg) : t.ioRead r = s.ioRead r := by
  cases r <;>
    simp only [State.ioRead, State.lyView, State.statView, State.lcdOn, h.joypad, h.serial, h.timer, h.intr, h.ppu] <;>
    rfl

theorem State.readPlace_congr {s t : State} (h : SameDevices s t) (hm : SameMemory s t) (p : Place) :
    t.readPlace p = s.readPlace p := by
  cases p with
  | cell r off => exact hm r off
  | io r => exact State.ioRead_congr h r
  | ie => simp only [State.readPlace, h.intr]
  | unmapped => rfl

theorem State.readRaw_congr {s t : State} (h : SameDevices s t) (hm : SameMemory s t) (a : Word) :
    t.readRaw a = s.readRaw a := by
  rw [State.readRaw, State.readRaw, State.place_congr h.params h.bootOverlay h.cart, State.readPlace_congr h hm]

/-- A bus read depends on devices and memory alone: reading is the same after any change of the registers. -/
theorem State.read_congr {s t : State} (h : SameDevices s t) (hm : SameMemory s t) (a : Word) : t.read a = s.read a := by
  rw [State.read, State.read, State.denied_congr h.ppu, State.readRaw_congr h hm]

theorem SameDevices.refl (s : State) : SameDevices s s := ⟨rfl, rfl, rfl, rfl, rfl, rfl, rfl, rfl⟩

theorem SameDevices.trans {s t u : State} (h : SameDevices s t) (k : SameDevices t u) : SameDevices s u :=
  ⟨k.intr.trans h.intr, k.timer.trans h.timer, k.serial.trans h.serial, k.joypad.trans h.joypad, k.cart.trans h.cart,
    k.bootOverlay.trans h.bootOverlay, k.ppu.trans h.ppu, k.params.trans h.params⟩

theorem SameMemory.refl (s : State) : SameMemory s s := fun _ _ => rfl

theorem SameMemory.of_eq {s t : State} (h : t.mem = s.mem) : SameMemory s t := fun r off => by rw [h]

theorem SameMemory.trans {s t u : State} (h : SameMemory s t) (k : SameMemory t u) : SameMemory s u :=
  fun r off => (k r off).trans (h r off)

theorem SameDevices.consume (s : State) (n k : Nat) : SameDevices s (s.consume n k) :=
  ⟨rfl, rfl, rfl, rfl, rfl, rfl, rfl, rfl⟩

@[simp] theorem State.consume_read (s : State) (n k : Nat) (a : Word) : (s.consume n k).read a = s.read a :=
  State.read_congr (SameDevices.consume s n k) (SameMemory.of_eq rfl) a

@[simp] theorem State.consume_place (s : State) (n k : Nat) (a : Word) : (s.consume n k).place a = s.place a := rfl

@[simp] theorem State.consume_denied (s : State) (n k : Nat) (a : Word) : (s.consume n k).denied a = s.denied a := rfl

@[simp] theorem State.consume_src (s : State) (n k : Nat) (x : Src8) : (s.consume n k).src x = s.src x := by
  cases x <;> simp [State.src]

@[simp] theorem State.consume_loc (s : State) (n k : Nat) (x : Loc8) : (s.consume n k).loc x = s.loc x := by
  cases x <;> simp [State.loc]

@[simp] theorem State.delayedEnable_read (s : State) (a : Word) : s.delayedEnable.read a = s.read a :=
  State.read_congr ⟨by simp, by simp, by simp, by simp, by simp, by simp, by simp, by simp⟩
    (SameMemory.of_eq (by simp)) a

/-! ## Owners -/

/-- An owner above the control ranges is no image. -/
theorem State.place_high {s : State} {a : Word} (h : 0x7FFF < a.toNat) {r : Region} {off : Nat}
    (hp : s.place a = .cell r off) : r ≠ .rom ∧ r ≠ .boot := by
  simp only [State.place] at hp
  have h1 : ¬ a.toNat ≤ 0x00FF := by omega
  have h2 : ¬ a.toNat ≤ 0x7FFF := by omega
  simp only [h1, h2, false_and, if_false] at hp
  repeat' split at hp
  all_goals first | cases hp; done | (obtain ⟨rfl, _⟩ := Place.cell.inj hp; exact ⟨by decide, by decide⟩)

/-- A cell above the control ranges lies inside its array. -/
theorem State.place_within {s : State} {a : Word} (h : 0x7FFF < a.toNat) {r : Region} {off : Nat}
    (hp : s.place a = .cell r off) : off < s.params.sizeOf r := by
  simp only [State.place] at hp
  have h1 : ¬ a.toNat ≤ 0x00FF := by omega
  have h2 : ¬ a.toNat ≤ 0x7FFF := by omega
  simp only [h1, h2, false_and, if_false] at hp
  split at hp
  · obtain ⟨rfl, rfl⟩ := Place.cell.inj hp
    simp only [Params.sizeOf]
    omega
  split at hp
  · split at hp
    · rename_i i hi
      obtain ⟨rfl, rfl⟩ := Place.cell.inj hp
      simp only [State.ramIndex] at hi
      split at hi
      · cases hi
      · rename_i ram hk
        split at hi
        · cases hi
        · rename_i hn
          obtain rfl := Option.some.inj hi
          simp only [Params.sizeOf, hk, CartKind.ramBytes]
          exact Nat.mod_lt _ (Nat.pos_of_ne_zero fun h0 => hn (.inr h0))
    · cases hp
  split at hp
  · obtain ⟨rfl, rfl⟩ := Place.cell.inj hp
    simp only [Params.sizeOf]
    omega
  split at hp
  · obtain ⟨rfl, rfl⟩ := Place.cell.inj hp
    simp only [Params.sizeOf]
    omega
  split at hp
  · obtain ⟨rfl, rfl⟩ := Place.cell.inj hp
    simp only [Params.sizeOf]
    omega
  split at hp
  · cases hp
  split at hp
  · split at hp <;> cases hp
  split at hp
  · obtain ⟨rfl, rfl⟩ := Place.cell.inj hp
    simp only [Params.sizeOf]
    omega
  · cases hp

/-- Cells of RAM hold whatever was written last, whatever else is listed. -/
theorem Memories.read_write_ram (M : Memories) {r : Region} (off : Nat) (v : Byte) (h : Config.blank r = none) :
    (M.write r off v).read r off = v := by
  rw [Memories.read, Memories.write_epoch, Memories.write, Memories.setArray_array, if_neg (by simp [h]),
    Memory.find_put_same]
  rfl

theorem Config.blank_ram {r : Region} (h : r ≠ .rom ∧ r ≠ .boot) : Config.blank r = none := by
  cases r <;> first | rfl | exact absurd rfl h.1 | exact absurd rfl h.2

/-! ## Writes: what is never touched -/

@[simp] theorem State.ioWrite_cpu (s : State) (r : IoReg) (v : Byte) : (s.ioWrite r v).cpu = s.cpu := by
  cases r <;> simp only [State.ioWrite, State.dmaBytes_cpu]
  split <;> rfl

@[simp] theorem State.ioWrite_params (s : State) (r : IoReg) (v : Byte) : (s.ioWrite r v).params = s.params := by
  cases r <;> simp only [State.ioWrite, State.dmaBytes_params]
  split <;> rfl

@[simp] theorem State.ioWrite_cycles (s : State) (r : IoReg) (v : Byte) : (s.ioWrite r v).cycles = s.cycles := by
  cases r <;> simp only [State.ioWrite, State.dmaBytes_cycles]
  split <;> rfl

@[simp] theorem State.ioWrite_cart (s : State) (r : IoReg) (v : Byte) : (s.ioWrite r v).cart = s.cart := by
  cases r <;> simp only [State.ioWrite, State.dmaBytes_cart]
  split <;> rfl

/-- Only the copy register reaches memory. -/
theorem State.ioWrite_mem (s : State) {r : IoReg} (v : Byte) (h : r ≠ .dma) : (s.ioWrite r v).mem = s.mem := by
  cases r <;> first | exact absurd rfl h | rfl | skip
  simp only [State.ioWrite]
  split <;> rfl

@[simp] theorem State.cartWriteControl_cpu (s : State) (a : Nat) (v : Byte) : (s.cartWriteControl a v).cpu = s.cpu := by
  unfold State.cartWriteControl
  repeat' split
  all_goals rfl

@[simp] theorem State.cartWriteControl_params (s : State) (a : Nat) (v : Byte) :
    (s.cartWriteControl a v).params = s.params := by
  unfold State.cartWriteControl
  repeat' split
  all_goals rfl

@[simp] theorem State.cartWriteControl_cycles (s : State) (a : Nat) (v : Byte) :
    (s.cartWriteControl a v).cycles = s.cycles := by
  unfold State.cartWriteControl
  repeat' split
  all_goals rfl

@[simp] theorem State.cartWriteControl_mem (s : State) (a : Nat) (v : Byte) : (s.cartWriteControl a v).mem = s.mem := by
  unfold State.cartWriteControl
  repeat' split
  all_goals rfl

/-- A control write changes the cartridge registers alone. -/
theorem State.cartWriteControl_eq (s : State) (a : Nat) (v : Byte) :
    s.cartWriteControl a v = { s with cart := (s.cartWriteControl a v).cart } := by
  unfold State.cartWriteControl
  repeat' split
  all_goals rfl

/-- "the bus may be read by it but never mutates it" (10_state.md R10). -/
@[simp] theorem State.write_cpu (s : State) (a : Word) (v : Byte) : (s.write a v).cpu = s.cpu := by
  unfold State.write State.writePlace
  split
  · simp
  · split
    · rfl
    · split <;> simp

@[simp] theorem State.write_params (s : State) (a : Word) (v : Byte) : (s.write a v).params = s.params := by
  unfold State.write State.writePlace
  split
  · simp
  · split
    · rfl
    · split <;> simp

@[simp] theorem State.write_cycles (s : State) (a : Word) (v : Byte) : (s.write a v).cycles = s.cycles := by
  unfold State.write State.writePlace
  split
  · simp
  · split
    · rfl
    · split <;> simp

/-! ## Writes to memory -/

/-- What one byte of the copy does. -/
theorem State.dmaByte_array_other (s : State) (v : Byte) (n : Nat) {q : Region} (h : q ≠ .oam) :
    (s.dmaByte v n).mem.array q = s.mem.array q := by
  simp only [State.dmaByte, State.writeCell_mem]
  exact Memories.write_array_other _ _ _ h

theorem State.dmaBytes_array_other (s : State) (v : Byte) (n : Nat) {q : Region} (h : q ≠ .oam) :
    (s.dmaBytes v n).mem.array q = s.mem.array q := by
  induction n with
  | zero => rfl
  | succ n ih => rw [State.dmaBytes, State.dmaByte_array_other _ _ _ h, ih]

@[simp] theorem State.dmaBytes_epoch (s : State) (v : Byte) (n : Nat) : (s.dmaBytes v n).mem.epoch = s.mem.epoch := by
  induction n with
  | zero => rfl
  | succ n ih => simp [State.dmaBytes, State.dmaByte, ih]

/-- Cells of `OAM` from `n` up, and every other array, are as before the first `n` bytes of the copy. -/
theorem State.dmaBytes_read_other (s : State) (v : Byte) (n : Nat) {q : Region} {o : Nat} (h : q ≠ .oam ∨ n ≤ o) :
    (s.dmaBytes v n).mem.read q o = s.mem.read q o := by
  induction n with
  | zero => rfl
  | succ n ih =>
    rw [State.dmaBytes, State.dmaByte, State.writeCell_mem, Memories.read_write_other, ih]
    · rcases h with h | h
      · exact .inl h
      · exact .inr (by omega)
    · intro e
      rcases Prod.mk.inj e with ⟨rfl, rfl⟩
      rcases h with h | h
      · exact h rfl
      · omega

/-- An address that `OAM` owns is the one of its cell. -/
theorem State.place_oam {s : State} {a : Word} {off : Nat} (h : s.place a = .cell .oam off) : a.toNat = 0xFE00 + off := by
  simp only [State.place] at h
  repeat' split at h
  all_goals simp only [Place.cell.injEq, reduceCtorEq, false_and, true_and] at h
  omega

/-- The byte the copy reads at its turn is the byte that was there before the copy began. -/
theorem State.dmaBytes_readRaw (s : State) (v : Byte) (n : Nat) (hn : n < 160) :
    (s.dmaBytes v n).readRaw ((v ++ 0#8 : Word) + BitVec.ofNat 16 n)
      = s.readRaw ((v ++ 0#8 : Word) + BitVec.ofNat 16 n) := by
  have hdev : SameDevices s (s.dmaBytes v n) :=
    ⟨by simp, by simp, by simp, by simp, by simp, by simp, by simp, by simp⟩
  rw [State.readRaw, State.readRaw, State.place_congr hdev.params hdev.bootOverlay hdev.cart]
  generalize hp : s.place ((v ++ 0#8 : Word) + BitVec.ofNat 16 n) = p
  cases p with
  | cell r off =>
    refine State.dmaBytes_read_other s v n ?_
    by_cases hr : r = .oam
    · subst hr
      have ha := State.place_oam hp
      have hv : (v ++ 0#8 : Word).toNat = v.toNat * 256 :=
        (BitVec.toNat_append v 0#8).trans (by simp [Nat.shiftLeft_eq])
      rw [BitVec.toNat_add, hv, BitVec.toNat_ofNat] at ha
      have := v.isLt
      exact .inr (by omega)
    · exact .inl hr
  | io r => exact State.ioRead_congr hdev r
  | ie => simp [State.readPlace]
  | unmapped => rfl

/-- What the copy does to memory (20_memory.md R74). -/
theorem State.dmaBytes_read (s : State) (v : Byte) (n : Nat) (hn : n ≤ 160) (q : Region) (o : Nat) :
    (s.dmaBytes v n).mem.read q o =
      if q = .oam ∧ o < n then s.readRaw ((v ++ 0#8 : Word) + BitVec.ofNat 16 o) else s.mem.read q o := by
  induction n with
  | zero => simp [State.dmaBytes]
  | succ n ih =>
    rw [State.dmaBytes, State.dmaByte, State.writeCell_mem]
    by_cases he : (q, o) = (.oam, n)
    · obtain ⟨rfl, rfl⟩ := Prod.mk.inj he
      rw [Memories.read_write_ram _ _ _ rfl, State.dmaBytes_readRaw s v o (by omega), if_pos ⟨rfl, by omega⟩]
    · rw [Memories.read_write_other _ _ he, ih (by omega)]
      by_cases hq : q = .oam
      · subst hq
        have hon : o ≠ n := fun e => he (by rw [e])
        simp only [true_and]
        split <;> split <;> first | rfl | omega
      · simp [hq]

/-- The images are never written (10_state.md R27, 20_memory.md R51). -/
theorem State.write_array_image (s : State) (a : Word) (v : Byte) {q : Region} (h : q = .rom ∨ q = .boot) :
    (s.write a v).mem.array q = s.mem.array q := by
  have hq : q ≠ .oam := by rcases h with rfl | rfl <;> decide
  unfold State.write
  split
  · simp
  · rename_i ha
    split
    · rfl
    · generalize hp : s.place a = p
      cases p with
      | cell r off =>
        have hr := State.place_high (by omega) hp
        refine Memories.write_array_other _ _ _ ?_
        rintro rfl
        rcases h with h | h
        · exact hr.1 h
        · exact hr.2 h
      | io r =>
        by_cases hd : r = .dma
        · subst hd
          exact State.dmaBytes_array_other _ _ _ hq
        · show (s.ioWrite r v).mem.array q = _
          rw [State.ioWrite_mem s v hd]
      | ie => rfl
      | unmapped => rfl

@[simp] theorem State.write_rom (s : State) (a : Word) (v : Byte) : (s.write a v).mem.rom = s.mem.rom :=
  State.write_array_image s a v (.inl rfl)

@[simp] theorem State.write_boot (s : State) (a : Word) (v : Byte) : (s.write a v).mem.boot = s.mem.boot :=
  State.write_array_image s a v (.inr rfl)

@[simp] theorem State.write_epoch (s : State) (a : Word) (v : Byte) : (s.write a v).mem.epoch = s.mem.epoch := by
  unfold State.write State.writePlace
  split
  · simp
  · split
    · rfl
    · split
      · simp
      · rename_i r _
        by_cases hd : r = .dma
        · subst hd
          simp [State.ioWrite]
        · rw [State.ioWrite_mem s v hd]
      · rfl
      · rfl

theorem State.dmaBytes_wf (s : State) (v : Byte) (n : Nat) (h : s.mem.wf = true) : (s.dmaBytes v n).mem.wf = true := by
  induction n with
  | zero => exact h
  | succ n ih => exact Memories.write_wf _ _ _ _ ih

theorem State.dmaBytes_within (s : State) (v : Byte) (n : Nat) (hn : n ≤ 160) (h : s.mem.within s.params = true) :
    (s.dmaBytes v n).mem.within s.params = true := by
  induction n with
  | zero => exact h
  | succ n ih => exact Memories.write_within _ _ _ _ (by simp only [Params.sizeOf]; omega) (ih (by omega))

/-- A bus write keeps memory in canonical form. -/
theorem State.write_wf (s : State) (a : Word) (v : Byte) (h : s.mem.wf = true) : (s.write a v).mem.wf = true := by
  unfold State.write State.writePlace
  split
  · simpa using h
  · split
    · exact h
    · split
      · exact Memories.write_wf _ _ _ _ h
      · rename_i r _
        by_cases hd : r = .dma
        · subst hd
          exact State.dmaBytes_wf _ _ _ h
        · rw [State.ioWrite_mem s v hd]
          exact h
      · exact h
      · exact h

/-- A bus write lists only cells that exist. -/
theorem State.write_within (s : State) (a : Word) (v : Byte) (h : s.mem.within s.params = true) :
    (s.write a v).mem.within s.params = true := by
  unfold State.write State.writePlace
  split
  · simpa using h
  · rename_i ha
    split
    · exact h
    · split
      · rename_i r off hp
        exact Memories.write_within _ _ _ _ (State.place_within (by omega) hp) h
      · rename_i r _
        by_cases hd : r = .dma
        · subst hd
          exact State.dmaBytes_within { s with ppu := { s.ppu with dma := v } } v 160 (by omega) h
        · rw [State.ioWrite_mem s v hd]
          exact h
      · exact h
      · exact h

/-! ## Writes: everything they do -/

/-- A bus write stores one byte, in the sense of `StoredByte`. -/
theorem State.write_storedByte (s : State) (a : Word) (v : Byte) : StoredByte a v s (s.write a v) where
  control h := by
    rw [State.write, if_pos h, State.cartWriteControl_eq]
    exact ⟨SameMemory.of_eq rfl, ⟨rfl, rfl, rfl, rfl, rfl, rfl, rfl, rfl⟩⟩
  denied h hd := by
    rw [State.write, if_neg (by omega), if_pos hd]
    exact ⟨SameMemory.refl s, SameDevices.refl s⟩
  unmapped h hd hp := by
    rw [State.write, if_neg (by omega), if_neg (by simp [hd]), hp]
    exact ⟨SameMemory.refl s, SameDevices.refl s⟩
  cell r off h hd hp := by
    rw [State.write, if_neg (by omega), if_neg (by simp [hd]), hp]
    have hdev : SameDevices s (s.writeCell r off v) := ⟨rfl, rfl, rfl, rfl, rfl, rfl, rfl, rfl⟩
    have hother : ∀ q o, (q, o) ≠ (r, off) → (s.writeCell r off v).mem.read q o = s.mem.read q o :=
      fun q o hq => Memories.read_write_other _ _ hq
    have hsame : (s.writeCell r off v).mem.read r off = v :=
      Memories.read_write_ram _ _ _ (Config.blank_ram (State.place_high h hp))
    refine ⟨hsame, ?_, hother, fun b hb => ?_, hdev⟩
    · show (s.writeCell r off v).read a = v
      rw [State.read, State.denied_congr hdev.ppu, hd, if_neg (by simp), State.readRaw,
        State.place_congr hdev.params hdev.bootOverlay hdev.cart, hp]
      exact hsame
    · show (s.writeCell r off v).read b = s.read b
      rw [State.read, State.read, State.denied_congr hdev.ppu, State.readRaw, State.readRaw,
        State.place_congr hdev.params hdev.bootOverlay hdev.cart]
      congr 1
      generalize s.place b = p at hb
      cases p with
      | cell q o => exact hother q o fun e => hb (by obtain ⟨rfl, rfl⟩ := Prod.mk.inj e; rfl)
      | io q => exact State.ioRead_congr hdev q
      | ie => rfl
      | unmapped => rfl
  ie h hd hp := by
    rw [State.write, if_neg (by omega), if_neg (by simp [hd]), hp]
    exact ⟨SameMemory.of_eq rfl, ⟨rfl, rfl, rfl, rfl, rfl, rfl, rfl, rfl⟩⟩
  io r h hd hp := by
    rw [State.write, if_neg (by omega), if_neg (by simp [hd]), hp]
    exact ⟨SameDevices.refl _, SameMemory.refl _, fun hr => SameMemory.of_eq (State.ioWrite_mem s v hr)⟩

end Sys2Proof.Machine
end

