-- ==== Sys2Proof/Laws/Forms.lean ====
section
/-! SUPPORT. The instructions by their shapes: every constructor of `Instr` is one of the forms below with its operands, and
`exec` of a form is its shared operation. Case analysis over the forms replaces case analysis over the constructors. -/

namespace Sys2Proof.Machine

/-- The shapes of instructions. -/
inductive Form where
  | nop
  | halt
  | stop (n : Byte)
  | di
  | ei
  | illegal (op : Byte)
  | ldRegReg (dst src : Reg8)
  | ldRegImm (dst : Reg8) (n : Byte)
  | ldRegMem (dst : Reg8)
  | ldMemReg (src : Reg8)
  | ldMemImm (n : Byte)
  | ldABc
  | ldADe
  | ldBcA
  | ldDeA
  | ldANn (nn : Word)
  | ldNnA (nn : Word)
  | ldhAC
  | ldhCA
  | ldhAN (n : Byte)
  | ldhNA (n : Byte)
  | ldAHli
  | ldAHld
  | ldHliA
  | ldHldA
  | ldPairImm (p : Pair) (nn : Word)
  | ldNnSp (nn : Word)
  | ldSpHl
  | ldHlSp (e : Byte)
  | push (p : StackPair)
  | pop (p : StackPair)
  | alu (op : AluOp) (x : Src8)
  | inc (x : Loc8)
  | dec (x : Loc8)
  | daa
  | cpl
  | scf
  | ccf
  | addHl (p : Pair)
  | incPair (p : Pair)
  | decPair (p : Pair)
  | addSp (e : Byte)
  | rlca
  | rla
  | rrca
  | rra
  | rot (op : RotOp) (x : Loc8)
  | bit (n : Field3) (x : Loc8)
  | res (n : Field3) (x : Loc8)
  | set (n : Field3) (x : Loc8)
  | jp (nn : Word)
  | jpCond (cc : Cond) (nn : Word)
  | jpHl
  | jr (e : Byte)
  | jrCond (cc : Cond) (e : Byte)
  | call (nn : Word)
  | callCond (cc : Cond) (nn : Word)
  | ret
  | retCond (cc : Cond)
  | reti
  | rst (t : Field3)

/-- The instruction of a form. -/
def Form.instr : Form → Instr
  | .nop => .nop
  | .halt => .halt
  | .stop n => .stop n
  | .di => .di
  | .ei => .ei
  | .illegal op => .illegal op
  | .ldRegReg dst src => .ldRegReg dst src
  | .ldRegImm dst n => .ldRegImm dst n
  | .ldRegMem dst => .ldRegMem dst
  | .ldMemReg src => .ldMemReg src
  | .ldMemImm n => .ld_atHL_n n
  | .ldABc => .ld_A_atBC
  | .ldADe => .ld_A_atDE
  | .ldBcA => .ld_atBC_A
  | .ldDeA => .ld_atDE_A
  | .ldANn nn => .ld_A_atNN nn
  | .ldNnA nn => .ld_atNN_A nn
  | .ldhAC => .ldh_A_atC
  | .ldhCA => .ldh_atC_A
  | .ldhAN n => .ldh_A_atN n
  | .ldhNA n => .ldh_atN_A n
  | .ldAHli => .ld_A_atHLi
  | .ldAHld => .ld_A_atHLd
  | .ldHliA => .ld_atHLi_A
  | .ldHldA => .ld_atHLd_A
  | .ldPairImm p nn => .ldPairImm p nn
  | .ldNnSp nn => .ld_atNN_SP nn
  | .ldSpHl => .ld_SP_HL
  | .ldHlSp e => .ld_HL_SPe e
  | .push p => .push p
  | .pop p => .pop p
  | .alu op x => .alu op x
  | .inc x => .inc x
  | .dec x => .dec x
  | .daa => .daa
  | .cpl => .cpl
  | .scf => .scf
  | .ccf => .ccf
  | .addHl p => .addHl p
  | .incPair p => .incPair p
  | .decPair p => .decPair p
  | .addSp e => .add_SP_e e
  | .rlca => .rlca
  | .rla => .rla
  | .rrca => .rrca
  | .rra => .rra
  | .rot op x => .rot op x
  | .bit n x => .bit n x
  | .res n x => .res n x
  | .set n x => .set n x
  | .jp nn => .jp_nn nn
  | .jpCond cc nn => .jpCond cc nn
  | .jpHl => .jp_HL
  | .jr e => .jr_e e
  | .jrCond cc e => .jrCond cc e
  | .call nn => .call_nn nn
  | .callCond cc nn => .callCond cc nn
  | .ret => .ret
  | .retCond cc => .retCond cc
  | .reti => .reti
  | .rst t => .rst t

/-- What an instruction of a form does. -/
def Form.run (s : State) : Form → Out
  | .nop => .next (s.consume 1 4)
  | .halt => execHalt s
  | .stop n => execStop n s
  | .di => execDi s
  | .ei => execEi s
  | .illegal op => execIllegal op s
  | .ldRegReg dst src => Sys2Proof.Machine.ldRegReg dst src s
  | .ldRegImm dst n => Sys2Proof.Machine.ldRegImm dst n s
  | .ldRegMem dst => ldRegAt dst .hl s
  | .ldMemReg src => ldAtReg .hl src s
  | .ldMemImm n => ldAtHlImm n s
  | .ldABc => ldRegAt .a .bc s
  | .ldADe => ldRegAt .a .de s
  | .ldBcA => ldAtReg .bc .a s
  | .ldDeA => ldAtReg .de .a s
  | .ldANn nn => ldAFrom 3 16 nn s
  | .ldNnA nn => ldAtA 3 16 nn s
  | .ldhAC => ldAFrom 1 8 (highPage s.cpu.c) s
  | .ldhCA => ldAtA 1 8 (highPage s.cpu.c) s
  | .ldhAN n => ldAFrom 2 12 (highPage n) s
  | .ldhNA n => ldAtA 2 12 (highPage n) s
  | .ldAHli => ldAHlStep 1#16 s
  | .ldAHld => ldAHlStep 0xFFFF#16 s
  | .ldHliA => ldHlStepA 1#16 s
  | .ldHldA => ldHlStepA 0xFFFF#16 s
  | .ldPairImm p nn => Sys2Proof.Machine.ldPairImm p nn s
  | .ldNnSp nn => execLd_atNN_SP nn s
  | .ldSpHl => execLd_SP_HL s
  | .ldHlSp e => execLd_HL_SPe e s
  | .push p => pushPair p s
  | .pop p => popPair p s
  | .alu op x => aluA op x s
  | .inc x => incDecLoc inc8 x s
  | .dec x => incDecLoc dec8 x s
  | .daa => adjustA daa8 s
  | .cpl => adjustA cpl8 s
  | .scf => adjustFlags scfFlags s
  | .ccf => adjustFlags ccfFlags s
  | .addHl p => addHlPair p s
  | .incPair p => stepPair 1#16 p s
  | .decPair p => stepPair 0xFFFF#16 p s
  | .addSp e => execAdd_SP_e e s
  | .rlca => rotateA .rlc s
  | .rla => rotateA .rl s
  | .rrca => rotateA .rrc s
  | .rra => rotateA .rr s
  | .rot op x => rotateLoc op x s
  | .bit n x => testBit n x s
  | .res n x => changeBit (res8 n) x s
  | .set n x => changeBit (set8 n) x s
  | .jp nn => execJp_nn nn s
  | .jpCond cc nn => jumpIf cc nn s
  | .jpHl => execJp_HL s
  | .jr e => execJr_e e s
  | .jrCond cc e => jumpRelativeIf cc e s
  | .call nn => execCall_nn nn s
  | .callCond cc nn => callIf cc nn s
  | .ret => execRet s
  | .retCond cc => retIf cc s
  | .reti => execReti s
  | .rst t => restart t s

/-- The form of an instruction. -/
def Form.of : Instr → Form
  | .nop => .nop
  | .ld_BC_nn nn => .ldPairImm .bc nn
  | .ld_atBC_A => .ldBcA
  | .inc_BC => .incPair .bc
  | .inc_B => .inc (.reg .b)
  | .dec_B => .dec (.reg .b)
  | .ld_B_n n => .ldRegImm .b n
  | .rlca => .rlca
  | .ld_atNN_SP nn => .ldNnSp nn
  | .add_HL_BC => .addHl .bc
  | .ld_A_atBC => .ldABc
  | .dec_BC => .decPair .bc
  | .inc_C => .inc (.reg .c)
  | .dec_C => .dec (.reg .c)
  | .ld_C_n n => .ldRegImm .c n
  | .rrca => .rrca
  | .stop n => .stop n
  | .ld_DE_nn nn => .ldPairImm .de nn
  | .ld_atDE_A => .ldDeA
  | .inc_DE => .incPair .de
  | .inc_D => .inc (.reg .d)
  | .dec_D => .dec (.reg .d)
  | .ld_D_n n => .ldRegImm .d n
  | .rla => .rla
  | .jr_e e => .jr e
  | .add_HL_DE => .addHl .de
  | .ld_A_atDE => .ldADe
  | .dec_DE => .decPair .de
  | .inc_E => .inc (.reg .e)
  | .dec_E => .dec (.reg .e)
  | .ld_E_n n => .ldRegImm .e n
  | .rra => .rra
  | .jr_NZ_e e => .jrCond .nz e
  | .ld_HL_nn nn => .ldPairImm .hl nn
  | .ld_atHLi_A => .ldHliA
  | .inc_HL => .incPair .hl
  | .inc_H => .inc (.reg .h)
  | .dec_H => .dec (.reg .h)
  | .ld_H_n n => .ldRegImm .h n
  | .daa => .daa
  | .jr_Z_e e => .jrCond .z e
  | .add_HL_HL => .addHl .hl
  | .ld_A_atHLi => .ldAHli
  | .dec_HL => .decPair .hl
  | .inc_L => .inc (.reg .l)
  | .dec_L => .dec (.reg .l)
  | .ld_L_n n => .ldRegImm .l n
  | .cpl => .cpl
  | .jr_NC_e e => .jrCond .nc e
  | .ld_SP_nn nn => .ldPairImm .sp nn
  | .ld_atHLd_A => .ldHldA
  | .inc_SP => .incPair .sp
  | .inc_atHL => .inc .atHL
  | .dec_atHL => .dec .atHL
  | .ld_atHL_n n => .ldMemImm n
  | .scf => .scf
  | .jr_C_e e => .jrCond .c e
  | .add_HL_SP => .addHl .sp
  | .ld_A_atHLd => .ldAHld
  | .dec_SP => .decPair .sp
  | .inc_A => .inc (.reg .a)
  | .dec_A => .dec (.reg .a)
  | .ld_A_n n => .ldRegImm .a n
  | .ccf => .ccf
  | .ld_B_B => .ldRegReg .b .b
  | .ld_B_C => .ldRegReg .b .c
  | .ld_B_D => .ldRegReg .b .d
  | .ld_B_E => .ldRegReg .b .e
  | .ld_B_H => .ldRegReg .b .h
  | .ld_B_L => .ldRegReg .b .l
  | .ld_B_atHL => .ldRegMem .b
  | .ld_B_A => .ldRegReg .b .a
  | .ld_C_B => .ldRegReg .c .b
  | .ld_C_C => .ldRegReg .c .c
  | .ld_C_D => .ldRegReg .c .d
  | .ld_C_E => .ldRegReg .c .e
  | .ld_C_H => .ldRegReg .c .h
  | .ld_C_L => .ldRegReg .c .l
  | .ld_C_atHL => .ldRegMem .c
  | .ld_C_A => .ldRegReg .c .a
  | .ld_D_B => .ldRegReg .d .b
  | .ld_D_C => .ldRegReg .d .c
  | .ld_D_D => .ldRegReg .d .d
  | .ld_D_E => .ldRegReg .d .e
  | .ld_D_H => .ldRegReg .d .h
  | .ld_D_L => .ldRegReg .d .l
  | .ld_D_atHL => .ldRegMem .d
  | .ld_D_A => .ldRegReg .d .a
  | .ld_E_B => .ldRegReg .e .b
  | .ld_E_C => .ldRegReg .e .c
  | .ld_E_D => .ldRegReg .e .d
  | .ld_E_E => .ldRegReg .e .e
  | .ld_E_H => .ldRegReg .e .h
  | .ld_E_L => .ldRegReg .e .l
  | .ld_E_atHL => .ldRegMem .e
  | .ld_E_A => .ldRegReg .e .a
  | .ld_H_B => .ldRegReg .h .b
  | .ld_H_C => .ldRegReg .h .c
  | .ld_H_D => .ldRegReg .h .d
  | .ld_H_E => .ldRegReg .h .e
  | .ld_H_H => .ldRegReg .h .h
  | .ld_H_L => .ldRegReg .h .l
  | .ld_H_atHL => .ldRegMem .h
  | .ld_H_A => .ldRegReg .h .a
  | .ld_L_B => .ldRegReg .l .b
  | .ld_L_C => .ldRegReg .l .c
  | .ld_L_D => .ldRegReg .l .d
  | .ld_L_E => .ldRegReg .l .e
  | .ld_L_H => .ldRegReg .l .h
  | .ld_L_L => .ldRegReg .l .l
  | .ld_L_atHL => .ldRegMem .l
  | .ld_L_A => .ldRegReg .l .a
  | .ld_atHL_B => .ldMemReg .b
  | .ld_atHL_C => .ldMemReg .c
  | .ld_atHL_D => .ldMemReg .d
  | .ld_atHL_E => .ldMemReg .e
  | .ld_atHL_H => .ldMemReg .h
  | .ld_atHL_L => .ldMemReg .l
  | .halt => .halt
  | .ld_atHL_A => .ldMemReg .a
  | .ld_A_B => .ldRegReg .a .b
  | .ld_A_C => .ldRegReg .a .c
  | .ld_A_D => .ldRegReg .a .d
  | .ld_A_E => .ldRegReg .a .e
  | .ld_A_H => .ldRegReg .a .h
  | .ld_A_L => .ldRegReg .a .l
  | .ld_A_atHL => .ldRegMem .a
  | .ld_A_A => .ldRegReg .a .a
  | .add_A_B => .alu .add (.reg .b)
  | .add_A_C => .alu .add (.reg .c)
  | .add_A_D => .alu .add (.reg .d)
  | .add_A_E => .alu .add (.reg .e)
  | .add_A_H => .alu .add (.reg .h)
  | .add_A_L => .alu .add (.reg .l)
  | .add_A_atHL => .alu .add .atHL
  | .add_A_A => .alu .add (.reg .a)
  | .adc_A_B => .alu .adc (.reg .b)
  | .adc_A_C => .alu .adc (.reg .c)
  | .adc_A_D => .alu .adc (.reg .d)
  | .adc_A_E => .alu .adc (.reg .e)
  | .adc_A_H => .alu .adc (.reg .h)
  | .adc_A_L => .alu .adc (.reg .l)
  | .adc_A_atHL => .alu .adc .atHL
  | .adc_A_A => .alu .adc (.reg .a)
  | .sub_B => .alu .sub (.reg .b)
  | .sub_C => .alu .sub (.reg .c)
  | .sub_D => .alu .sub (.reg .d)
  | .sub_E => .alu .sub (.reg .e)
  | .sub_H => .alu .sub (.reg .h)
  | .sub_L => .alu .sub (.reg .l)
  | .sub_atHL => .alu .sub .atHL
  | .sub_A => .alu .sub (.reg .a)
  | .sbc_A_B => .alu .sbc (.reg .b)
  | .sbc_A_C => .alu .sbc (.reg .c)
  | .sbc_A_D => .alu .sbc (.reg .d)
  | .sbc_A_E => .alu .sbc (.reg .e)
  | .sbc_A_H => .alu .sbc (.reg .h)
  | .sbc_A_L => .alu .sbc (.reg .l)
  | .sbc_A_atHL => .alu .sbc .atHL
  | .sbc_A_A => .alu .sbc (.reg .a)
  | .and_B => .alu .and (.reg .b)
  | .and_C => .alu .and (.reg .c)
  | .and_D => .alu .and (.reg .d)
  | .and_E => .alu .and (.reg .e)
  | .and_H => .alu .and (.reg .h)
  | .and_L => .alu .and (.reg .l)
  | .and_atHL => .alu .and .atHL
  | .and_A => .alu .and (.reg .a)
  | .xor_B => .alu .xor (.reg .b)
  | .xor_C => .alu .xor (.reg .c)
  | .xor_D => .alu .xor (.reg .d)
  | .xor_E => .alu .xor (.reg .e)
  | .xor_H => .alu .xor (.reg .h)
  | .xor_L => .alu .xor (.reg .l)
  | .xor_atHL => .alu .xor .atHL
  | .xor_A => .alu .xor (.reg .a)
  | .or_B => .alu .or (.reg .b)
  | .or_C => .alu .or (.reg .c)
  | .or_D => .alu .or (.reg .d)
  | .or_E => .alu .or (.reg .e)
  | .or_H => .alu .or (.reg .h)
  | .or_L => .alu .or (.reg .l)
  | .or_atHL => .alu .or .atHL
  | .or_A => .alu .or (.reg .a)
  | .cp_B => .alu .cp (.reg .b)
  | .cp_C => .alu .cp (.reg .c)
  | .cp_D => .alu .cp (.reg .d)
  | .cp_E => .alu .cp (.reg .e)
  | .cp_H => .alu .cp (.reg .h)
  | .cp_L => .alu .cp (.reg .l)
  | .cp_atHL => .alu .cp .atHL
  | .cp_A => .alu .cp (.reg .a)
  | .ret_NZ => .retCond .nz
  | .pop_BC => .pop .bc
  | .jp_NZ_nn nn => .jpCond .nz nn
  | .jp_nn nn => .jp nn
  | .call_NZ_nn nn => .callCond .nz nn
  | .push_BC => .push .bc
  | .add_A_n n => .alu .add (.imm n)
  | .rst_00 => .rst .o0
  | .ret_Z => .retCond .z
  | .ret => .ret
  | .jp_Z_nn nn => .jpCond .z nn
  | .call_Z_nn nn => .callCond .z nn
  | .call_nn nn => .call nn
  | .adc_A_n n => .alu .adc (.imm n)
  | .rst_08 => .rst .o1
  | .ret_NC => .retCond .nc
  | .pop_DE => .pop .de
  | .jp_NC_nn nn => .jpCond .nc nn
  | .illegal op => .illegal op
  | .call_NC_nn nn => .callCond .nc nn
  | .push_DE => .push .de
  | .sub_n n => .alu .sub (.imm n)
  | .rst_10 => .rst .o2
  | .ret_C => .retCond .c
  | .reti => .reti
  | .jp_C_nn nn => .jpCond .c nn
  | .call_C_nn nn => .callCond .c nn
  | .sbc_A_n n => .alu .sbc (.imm n)
  | .rst_18 => .rst .o3
  | .ldh_atN_A n => .ldhNA n
  | .pop_HL => .pop .hl
  | .ldh_atC_A => .ldhCA
  | .push_HL => .push .hl
  | .and_n n => .alu .and (.imm n)
  | .rst_20 => .rst .o4
  | .add_SP_e e => .addSp e
  | .jp_HL => .jpHl
  | .ld_atNN_A nn => .ldNnA nn
  | .xor_n n => .alu .xor (.imm n)
  | .rst_28 => .rst .o5
  | .ldh_A_atN n => .ldhAN n
  | .pop_AF => .pop .af
  | .ldh_A_atC => .ldhAC
  | .di => .di
  | .push_AF => .push .af
  | .or_n n => .alu .or (.imm n)
  | .rst_30 => .rst .o6
  | .ld_HL_SPe e => .ldHlSp e
  | .ld_SP_HL => .ldSpHl
  | .ld_A_atNN nn => .ldANn nn
  | .ei => .ei
  | .cp_n n => .alu .cp (.imm n)
  | .rst_38 => .rst .o7
  | .rlc_B => .rot .rlc (.reg .b)
  | .rlc_C => .rot .rlc (.reg .c)
  | .rlc_D => .rot .rlc (.reg .d)
  | .rlc_E => .rot .rlc (.reg .e)
  | .rlc_H => .rot .rlc (.reg .h)
  | .rlc_L => .rot .rlc (.reg .l)
  | .rlc_atHL => .rot .rlc .atHL
  | .rlc_A => .rot .rlc (.reg .a)
  | .rrc_B => .rot .rrc (.reg .b)
  | .rrc_C => .rot .rrc (.reg .c)
  | .rrc_D => .rot .rrc (.reg .d)
  | .rrc_E => .rot .rrc (.reg .e)
  | .rrc_H => .rot .rrc (.reg .h)
  | .rrc_L => .rot .rrc (.reg .l)
  | .rrc_atHL => .rot .rrc .atHL
  | .rrc_A => .rot .rrc (.reg .a)
  | .rl_B => .rot .rl (.reg .b)
  | .rl_C => .rot .rl (.reg .c)
  | .rl_D => .rot .rl (.reg .d)
  | .rl_E => .rot .rl (.reg .e)
  | .rl_H => .rot .rl (.reg .h)
  | .rl_L => .rot .rl (.reg .l)
  | .rl_atHL => .rot .rl .atHL
  | .rl_A => .rot .rl (.reg .a)
  | .rr_B => .rot .rr (.reg .b)
  | .rr_C => .rot .rr (.reg .c)
  | .rr_D => .rot .rr (.reg .d)
  | .rr_E => .rot .rr (.reg .e)
  | .rr_H => .rot .rr (.reg .h)
  | .rr_L => .rot .rr (.reg .l)
  | .rr_atHL => .rot .rr .atHL
  | .rr_A => .rot .rr (.reg .a)
  | .sla_B => .rot .sla (.reg .b)
  | .sla_C => .rot .sla (.reg .c)
  | .sla_D => .rot .sla (.reg .d)
  | .sla_E => .rot .sla (.reg .e)
  | .sla_H => .rot .sla (.reg .h)
  | .sla_L => .rot .sla (.reg .l)
  | .sla_atHL => .rot .sla .atHL
  | .sla_A => .rot .sla (.reg .a)
  | .sra_B => .rot .sra (.reg .b)
  | .sra_C => .rot .sra (.reg .c)
  | .sra_D => .rot .sra (.reg .d)
  | .sra_E => .rot .sra (.reg .e)
  | .sra_H => .rot .sra (.reg .h)
  | .sra_L => .rot .sra (.reg .l)
  | .sra_atHL => .rot .sra .atHL
  | .sra_A => .rot .sra (.reg .a)
  | .swap_B => .rot .swap (.reg .b)
  | .swap_C => .rot .swap (.reg .c)
  | .swap_D => .rot .swap (.reg .d)
  | .swap_E => .rot .swap (.reg .e)
  | .swap_H => .rot .swap (.reg .h)
  | .swap_L => .rot .swap (.reg .l)
  | .swap_atHL => .rot .swap .atHL
  | .swap_A => .rot .swap (.reg .a)
  | .srl_B => .rot .srl (.reg .b)
  | .srl_C => .rot .srl (.reg .c)
  | .srl_D => .rot .srl (.reg .d)
  | .srl_E => .rot .srl (.reg .e)
  | .srl_H => .rot .srl (.reg .h)
  | .srl_L => .rot .srl (.reg .l)
  | .srl_atHL => .rot .srl .atHL
  | .srl_A => .rot .srl (.reg .a)
  | .bit_0_B => .bit .o0 (.reg .b)
  | .bit_0_C => .bit .o0 (.reg .c)
  | .bit_0_D => .bit .o0 (.reg .d)
  | .bit_0_E => .bit .o0 (.reg .e)
  | .bit_0_H => .bit .o0 (.reg .h)
  | .bit_0_L => .bit .o0 (.reg .l)
  | .bit_0_atHL => .bit .o0 .atHL
  | .bit_0_A => .bit .o0 (.reg .a)
  | .bit_1_B => .bit .o1 (.reg .b)
  | .bit_1_C => .bit .o1 (.reg .c)
  | .bit_1_D => .bit .o1 (.reg .d)
  | .bit_1_E => .bit .o1 (.reg .e)
  | .bit_1_H => .bit .o1 (.reg .h)
  | .bit_1_L => .bit .o1 (.reg .l)
  | .bit_1_atHL => .bit .o1 .atHL
  | .bit_1_A => .bit .o1 (.reg .a)
  | .bit_2_B => .bit .o2 (.reg .b)
  | .bit_2_C => .bit .o2 (.reg .c)
  | .bit_2_D => .bit .o2 (.reg .d)
  | .bit_2_E => .bit .o2 (.reg .e)
  | .bit_2_H => .bit .o2 (.reg .h)
  | .bit_2_L => .bit .o2 (.reg .l)
  | .bit_2_atHL => .bit .o2 .atHL
  | .bit_2_A => .bit .o2 (.reg .a)
  | .bit_3_B => .bit .o3 (.reg .b)
  | .bit_3_C => .bit .o3 (.reg .c)
  | .bit_3_D => .bit .o3 (.reg .d)
  | .bit_3_E => .bit .o3 (.reg .e)
  | .bit_3_H => .bit .o3 (.reg .h)
  | .bit_3_L => .bit .o3 (.reg .l)
  | .bit_3_atHL => .bit .o3 .atHL
  | .bit_3_A => .bit .o3 (.reg .a)
  | .bit_4_B => .bit .o4 (.reg .b)
  | .bit_4_C => .bit .o4 (.reg .c)
  | .bit_4_D => .bit .o4 (.reg .d)
  | .bit_4_E => .bit .o4 (.reg .e)
  | .bit_4_H => .bit .o4 (.reg .h)
  | .bit_4_L => .bit .o4 (.reg .l)
  | .bit_4_atHL => .bit .o4 .atHL
  | .bit_4_A => .bit .o4 (.reg .a)
  | .bit_5_B => .bit .o5 (.reg .b)
  | .bit_5_C => .bit .o5 (.reg .c)
  | .bit_5_D => .bit .o5 (.reg .d)
  | .bit_5_E => .bit .o5 (.reg .e)
  | .bit_5_H => .bit .o5 (.reg .h)
  | .bit_5_L => .bit .o5 (.reg .l)
  | .bit_5_atHL => .bit .o5 .atHL
  | .bit_5_A => .bit .o5 (.reg .a)
  | .bit_6_B => .bit .o6 (.reg .b)
  | .bit_6_C => .bit .o6 (.reg .c)
  | .bit_6_D => .bit .o6 (.reg .d)
  | .bit_6_E => .bit .o6 (.reg .e)
  | .bit_6_H => .bit .o6 (.reg .h)
  | .bit_6_L => .bit .o6 (.reg .l)
  | .bit_6_atHL => .bit .o6 .atHL
  | .bit_6_A => .bit .o6 (.reg .a)
  | .bit_7_B => .bit .o7 (.reg .b)
  | .bit_7_C => .bit .o7 (.reg .c)
  | .bit_7_D => .bit .o7 (.reg .d)
  | .bit_7_E => .bit .o7 (.reg .e)
  | .bit_7_H => .bit .o7 (.reg .h)
  | .bit_7_L => .bit .o7 (.reg .l)
  | .bit_7_atHL => .bit .o7 .atHL
  | .bit_7_A => .bit .o7 (.reg .a)
  | .res_0_B => .res .o0 (.reg .b)
  | .res_0_C => .res .o0 (.reg .c)
  | .res_0_D => .res .o0 (.reg .d)
  | .res_0_E => .res .o0 (.reg .e)
  | .res_0_H => .res .o0 (.reg .h)
  | .res_0_L => .res .o0 (.reg .l)
  | .res_0_atHL => .res .o0 .atHL
  | .res_0_A => .res .o0 (.reg .a)
  | .res_1_B => .res .o1 (.reg .b)
  | .res_1_C => .res .o1 (.reg .c)
  | .res_1_D => .res .o1 (.reg .d)
  | .res_1_E => .res .o1 (.reg .e)
  | .res_1_H => .res .o1 (.reg .h)
  | .res_1_L => .res .o1 (.reg .l)
  | .res_1_atHL => .res .o1 .atHL
  | .res_1_A => .res .o1 (.reg .a)
  | .res_2_B => .res .o2 (.reg .b)
  | .res_2_C => .res .o2 (.reg .c)
  | .res_2_D => .res .o2 (.reg .d)
  | .res_2_E => .res .o2 (.reg .e)
  | .res_2_H => .res .o2 (.reg .h)
  | .res_2_L => .res .o2 (.reg .l)
  | .res_2_atHL => .res .o2 .atHL
  | .res_2_A => .res .o2 (.reg .a)
  | .res_3_B => .res .o3 (.reg .b)
  | .res_3_C => .res .o3 (.reg .c)
  | .res_3_D => .res .o3 (.reg .d)
  | .res_3_E => .res .o3 (.reg .e)
  | .res_3_H => .res .o3 (.reg .h)
  | .res_3_L => .res .o3 (.reg .l)
  | .res_3_atHL => .res .o3 .atHL
  | .res_3_A => .res .o3 (.reg .a)
  | .res_4_B => .res .o4 (.reg .b)
  | .res_4_C => .res .o4 (.reg .c)
  | .res_4_D => .res .o4 (.reg .d)
  | .res_4_E => .res .o4 (.reg .e)
  | .res_4_H => .res .o4 (.reg .h)
  | .res_4_L => .res .o4 (.reg .l)
  | .res_4_atHL => .res .o4 .atHL
  | .res_4_A => .res .o4 (.reg .a)
  | .res_5_B => .res .o5 (.reg .b)
  | .res_5_C => .res .o5 (.reg .c)
  | .res_5_D => .res .o5 (.reg .d)
  | .res_5_E => .res .o5 (.reg .e)
  | .res_5_H => .res .o5 (.reg .h)
  | .res_5_L => .res .o5 (.reg .l)
  | .res_5_atHL => .res .o5 .atHL
  | .res_5_A => .res .o5 (.reg .a)
  | .res_6_B => .res .o6 (.reg .b)
  | .res_6_C => .res .o6 (.reg .c)
  | .res_6_D => .res .o6 (.reg .d)
  | .res_6_E => .res .o6 (.reg .e)
  | .res_6_H => .res .o6 (.reg .h)
  | .res_6_L => .res .o6 (.reg .l)
  | .res_6_atHL => .res .o6 .atHL
  | .res_6_A => .res .o6 (.reg .a)
  | .res_7_B => .res .o7 (.reg .b)
  | .res_7_C => .res .o7 (.reg .c)
  | .res_7_D => .res .o7 (.reg .d)
  | .res_7_E => .res .o7 (.reg .e)
  | .res_7_H => .res .o7 (.reg .h)
  | .res_7_L => .res .o7 (.reg .l)
  | .res_7_atHL => .res .o7 .atHL
  | .res_7_A => .res .o7 (.reg .a)
  | .set_0_B => .set .o0 (.reg .b)
  | .set_0_C => .set .o0 (.reg .c)
  | .set_0_D => .set .o0 (.reg .d)
  | .set_0_E => .set .o0 (.reg .e)
  | .set_0_H => .set .o0 (.reg .h)
  | .set_0_L => .set .o0 (.reg .l)
  | .set_0_atHL => .set .o0 .atHL
  | .set_0_A => .set .o0 (.reg .a)
  | .set_1_B => .set .o1 (.reg .b)
  | .set_1_C => .set .o1 (.reg .c)
  | .set_1_D => .set .o1 (.reg .d)
  | .set_1_E => .set .o1 (.reg .e)
  | .set_1_H => .set .o1 (.reg .h)
  | .set_1_L => .set .o1 (.reg .l)
  | .set_1_atHL => .set .o1 .atHL
  | .set_1_A => .set .o1 (.reg .a)
  | .set_2_B => .set .o2 (.reg .b)
  | .set_2_C => .set .o2 (.reg .c)
  | .set_2_D => .set .o2 (.reg .d)
  | .set_2_E => .set .o2 (.reg .e)
  | .set_2_H => .set .o2 (.reg .h)
  | .set_2_L => .set .o2 (.reg .l)
  | .set_2_atHL => .set .o2 .atHL
  | .set_2_A => .set .o2 (.reg .a)
  | .set_3_B => .set .o3 (.reg .b)
  | .set_3_C => .set .o3 (.reg .c)
  | .set_3_D => .set .o3 (.reg .d)
  | .set_3_E => .set .o3 (.reg .e)
  | .set_3_H => .set .o3 (.reg .h)
  | .set_3_L => .set .o3 (.reg .l)
  | .set_3_atHL => .set .o3 .atHL
  | .set_3_A => .set .o3 (.reg .a)
  | .set_4_B => .set .o4 (.reg .b)
  | .set_4_C => .set .o4 (.reg .c)
  | .set_4_D => .set .o4 (.reg .d)
  | .set_4_E => .set .o4 (.reg .e)
  | .set_4_H => .set .o4 (.reg .h)
  | .set_4_L => .set .o4 (.reg .l)
  | .set_4_atHL => .set .o4 .atHL
  | .set_4_A => .set .o4 (.reg .a)
  | .set_5_B => .set .o5 (.reg .b)
  | .set_5_C => .set .o5 (.reg .c)
  | .set_5_D => .set .o5 (.reg .d)
  | .set_5_E => .set .o5 (.reg .e)
  | .set_5_H => .set .o5 (.reg .h)
  | .set_5_L => .set .o5 (.reg .l)
  | .set_5_atHL => .set .o5 .atHL
  | .set_5_A => .set .o5 (.reg .a)
  | .set_6_B => .set .o6 (.reg .b)
  | .set_6_C => .set .o6 (.reg .c)
  | .set_6_D => .set .o6 (.reg .d)
  | .set_6_E => .set .o6 (.reg .e)
  | .set_6_H => .set .o6 (.reg .h)
  | .set_6_L => .set .o6 (.reg .l)
  | .set_6_atHL => .set .o6 .atHL
  | .set_6_A => .set .o6 (.reg .a)
  | .set_7_B => .set .o7 (.reg .b)
  | .set_7_C => .set .o7 (.reg .c)
  | .set_7_D => .set .o7 (.reg .d)
  | .set_7_E => .set .o7 (.reg .e)
  | .set_7_H => .set .o7 (.reg .h)
  | .set_7_L => .set .o7 (.reg .l)
  | .set_7_atHL => .set .o7 .atHL
  | .set_7_A => .set .o7 (.reg .a)

/-- Every instruction is the instruction of its form. -/
@[simp] theorem Form.instr_of (i : Instr) : (Form.of i).instr = i := by
  cases i <;> rfl

/-- `exec` of an instruction of a form is what the form does. -/
@[simp] theorem exec_instr (f : Form) (s : State) : exec f.instr s = f.run s := by
  cases f with
  | nop => rfl
  | halt => rfl
  | stop n => rfl
  | di => rfl
  | ei => rfl
  | illegal op => rfl
  | ldRegReg dst src => cases dst <;> cases src <;> rfl
  | ldRegImm dst n => cases dst <;> rfl
  | ldRegMem dst => cases dst <;> rfl
  | ldMemReg src => cases src <;> rfl
  | ldMemImm n => rfl
  | ldABc => rfl
  | ldADe => rfl
  | ldBcA => rfl
  | ldDeA => rfl
  | ldANn nn => rfl
  | ldNnA nn => rfl
  | ldhAC => rfl
  | ldhCA => rfl
  | ldhAN n => rfl
  | ldhNA n => rfl
  | ldAHli => rfl
  | ldAHld => rfl
  | ldHliA => rfl
  | ldHldA => rfl
  | ldPairImm p nn => cases p <;> rfl
  | ldNnSp nn => rfl
  | ldSpHl => rfl
  | ldHlSp e => rfl
  | push p => cases p <;> rfl
  | pop p => cases p <;> rfl
  | alu op x => cases op <;> rcases x with ⟨⟨⟩⟩ | _ | _ <;> rfl
  | inc x => rcases x with ⟨⟨⟩⟩ | _ <;> rfl
  | dec x => rcases x with ⟨⟨⟩⟩ | _ <;> rfl
  | daa => rfl
  | cpl => rfl
  | scf => rfl
  | ccf => rfl
  | addHl p => cases p <;> rfl
  | incPair p => cases p <;> rfl
  | decPair p => cases p <;> rfl
  | addSp e => rfl
  | rlca => rfl
  | rla => rfl
  | rrca => rfl
  | rra => rfl
  | rot op x => cases op <;> rcases x with ⟨⟨⟩⟩ | _ <;> rfl
  | bit n x => cases n <;> rcases x with ⟨⟨⟩⟩ | _ <;> rfl
  | res n x => cases n <;> rcases x with ⟨⟨⟩⟩ | _ <;> rfl
  | set n x => cases n <;> rcases x with ⟨⟨⟩⟩ | _ <;> rfl
  | jp nn => rfl
  | jpCond cc nn => cases cc <;> rfl
  | jpHl => rfl
  | jr e => rfl
  | jrCond cc e => cases cc <;> rfl
  | call nn => rfl
  | callCond cc nn => cases cc <;> rfl
  | ret => rfl
  | retCond cc => cases cc <;> rfl
  | reti => rfl
  | rst t => cases t <;> rfl

/-- `exec` by the form of the instruction. -/
theorem exec_eq_run (i : Instr) (s : State) : exec i s = (Form.of i).run s := by
  rw [← exec_instr, Form.instr_of]

end Sys2Proof.Machine
end

