-- ==== Sys2Proof/Laws/Exec.lean ====
section
/-! SUPPORT. Everything an instruction can do, said once: an instruction always has a next state, and that state comes from
the old one by changes of the registers, bus writes, and (for `STOP`) a clear of the divider. -/

namespace Sys2Proof.Machine

/-- The changes an instruction is made of. -/
inductive Effects (s : State) : State → Prop
  | refl : Effects s s
  | core {t : State} (u : CpuState) (k : Nat) (h : Effects s t) : Effects s { t with cpu := u, cycles := k }
  | write {t : State} (a : Word) (v : Byte) (h : Effects s t) : Effects s (t.write a v)
  | divider {t : State} (h : Effects s t) : Effects s { t with timer := { t.timer with divCounter := 0#16 } }

namespace Effects

theorem consume {s t : State} (h : Effects s t) (n k : Nat) : Effects s (t.consume n k) := h.core _ _

theorem mapCpu {s t : State} (h : Effects s t) (f : CpuState → CpuState) : Effects s (t.mapCpu f) := h.core _ t.cycles

theorem setFlags {s t : State} (h : Effects s t) (f : Flags) : Effects s (t.setFlags f) := h.core _ t.cycles

theorem setResult {s t : State} (h : Effects s t) (r : Result8) : Effects s (t.setResult r) := h.core _ t.cycles

theorem setLoc {s t : State} (h : Effects s t) (x : Loc8) (v : Byte) : Effects s (t.setLoc x v) := by
  cases x with
  | reg r => exact h.core _ t.cycles
  | atHL => exact h.write _ _

theorem jump {s t : State} (h : Effects s t) (a : Word) : Effects s (t.jump a) := h.core _ t.cycles

theorem push16 {s t : State} (h : Effects s t) (v : Word) : Effects s (t.push16 v) :=
  ((((h.core { t.cpu with sp := t.cpu.sp - 1#16 } t.cycles).write _ _).core _ _).write _ _)

theorem call {s t : State} (h : Effects s t) (a : Word) : Effects s (t.call a) := (h.push16 _).jump _

theorem ret {s t : State} (h : Effects s t) : Effects s t.ret := (h.core _ t.cycles).jump _

theorem returnFromInterrupt {s t : State} (h : Effects s t) : Effects s t.returnFromInterrupt := h.ret.core _ t.cycles

theorem branch {s : State} {cc : Cond} {n k m : Nat} {f : State → State}
    (hf : ∀ t, Effects s t → Effects s (f t)) : ∃ t, Machine.branch cc n k m f s = .next t ∧ Effects s t := by
  unfold Machine.branch
  split
  · exact ⟨_, rfl, hf _ (Effects.refl.consume _ _)⟩
  · exact ⟨_, rfl, Effects.refl.consume _ _⟩

/-- A property that every kind of change keeps is kept. -/
theorem keeps {P : State → Prop} {s t : State} (h : Effects s t) (hs : P s)
    (core : ∀ t u k, P t → P { t with cpu := u, cycles := k }) (write : ∀ t a v, P t → P (t.write a v))
    (divider : ∀ t, P t → P { t with timer := { t.timer with divCounter := 0#16 } }) : P t := by
  induction h with
  | refl => exact hs
  | core u k _ ih => exact core _ u k ih
  | write a v _ ih => exact write _ a v ih
  | divider _ ih => exact divider _ ih

end Effects

/-- Every instruction has a next state, reached by the changes of `Effects`. -/
theorem Form.run_effects (f : Form) (s : State) : ∃ t, f.run s = .next t ∧ Effects s t := by
  have h0 := fun n k => (Effects.refl (s := s)).consume n k
  cases f with
  | nop => exact ⟨_, rfl, h0 _ _⟩
  | halt =>
    simp only [Form.run, execHalt]
    split
    · exact ⟨_, rfl, (h0 _ _).mapCpu _⟩
    split
    · exact ⟨_, rfl, (h0 _ _).mapCpu _⟩
    · exact ⟨_, rfl, (h0 _ _).mapCpu _⟩
  | stop n => exact ⟨_, rfl, ((h0 2 4).divider).core _ 4⟩
  | di => exact ⟨_, rfl, (h0 _ _).mapCpu _⟩
  | ei => exact ⟨_, rfl, (h0 _ _).mapCpu _⟩
  | illegal op => exact ⟨_, rfl, Effects.refl.core _ _⟩
  | ldRegReg dst src => exact ⟨_, rfl, (h0 _ _).mapCpu _⟩
  | ldRegImm dst n => exact ⟨_, rfl, (h0 _ _).mapCpu _⟩
  | ldRegMem dst => exact ⟨_, rfl, (h0 _ _).mapCpu _⟩
  | ldMemReg src => exact ⟨_, rfl, (h0 _ _).write _ _⟩
  | ldMemImm n => exact ⟨_, rfl, (h0 _ _).write _ _⟩
  | ldABc => exact ⟨_, rfl, (h0 _ _).mapCpu _⟩
  | ldADe => exact ⟨_, rfl, (h0 _ _).mapCpu _⟩
  | ldBcA => exact ⟨_, rfl, (h0 _ _).write _ _⟩
  | ldDeA => exact ⟨_, rfl, (h0 _ _).write _ _⟩
  | ldANn nn => exact ⟨_, rfl, (h0 _ _).mapCpu _⟩
  | ldNnA nn => exact ⟨_, rfl, (h0 _ _).write _ _⟩
  | ldhAC => exact ⟨_, rfl, (h0 _ _).mapCpu _⟩
  | ldhCA => exact ⟨_, rfl, (h0 _ _).write _ _⟩
  | ldhAN n => exact ⟨_, rfl, (h0 _ _).mapCpu _⟩
  | ldhNA n => exact ⟨_, rfl, (h0 _ _).write _ _⟩
  | ldAHli => exact ⟨_, rfl, (h0 _ _).mapCpu _⟩
  | ldAHld => exact ⟨_, rfl, (h0 _ _).mapCpu _⟩
  | ldHliA => exact ⟨_, rfl, ((h0 _ _).write _ _).mapCpu _⟩
  | ldHldA => exact ⟨_, rfl, ((h0 _ _).write _ _).mapCpu _⟩
  | ldPairImm p nn => exact ⟨_, rfl, (h0 _ _).mapCpu _⟩
  | ldNnSp nn => exact ⟨_, rfl, ((h0 _ _).write _ _).write _ _⟩
  | ldSpHl => exact ⟨_, rfl, (h0 _ _).mapCpu _⟩
  | ldHlSp e => exact ⟨_, rfl, (h0 _ _).mapCpu _⟩
  | push p => exact ⟨_, rfl, (h0 _ _).push16 _⟩
  | pop p => exact ⟨_, rfl, ((h0 1 12).core _ 12).mapCpu _⟩
  | alu op x => exact ⟨_, rfl, (h0 _ _).setResult _⟩
  | inc x => exact ⟨_, rfl, ((h0 _ _).setLoc _ _).setFlags _⟩
  | dec x => exact ⟨_, rfl, ((h0 _ _).setLoc _ _).setFlags _⟩
  | daa => exact ⟨_, rfl, (h0 _ _).setResult _⟩
  | cpl => exact ⟨_, rfl, (h0 _ _).setResult _⟩
  | scf => exact ⟨_, rfl, (h0 _ _).setFlags _⟩
  | ccf => exact ⟨_, rfl, (h0 _ _).setFlags _⟩
  | addHl p => exact ⟨_, rfl, (h0 _ _).mapCpu _⟩
  | incPair p => exact ⟨_, rfl, (h0 _ _).mapCpu _⟩
  | decPair p => exact ⟨_, rfl, (h0 _ _).mapCpu _⟩
  | addSp e => exact ⟨_, rfl, (h0 _ _).mapCpu _⟩
  | rlca => exact ⟨_, rfl, (h0 _ _).setResult _⟩
  | rla => exact ⟨_, rfl, (h0 _ _).setResult _⟩
  | rrca => exact ⟨_, rfl, (h0 _ _).setResult _⟩
  | rra => exact ⟨_, rfl, (h0 _ _).setResult _⟩
  | rot op x => exact ⟨_, rfl, ((h0 _ _).setLoc _ _).setFlags _⟩
  | bit n x => exact ⟨_, rfl, (h0 _ _).setFlags _⟩
  | res n x => exact ⟨_, rfl, (h0 _ _).setLoc _ _⟩
  | set n x => exact ⟨_, rfl, (h0 _ _).setLoc _ _⟩
  | jp nn => exact ⟨_, rfl, (h0 _ _).jump _⟩
  | jpCond cc nn => exact Effects.branch fun _ h => h.jump _
  | jpHl => exact ⟨_, rfl, (h0 _ _).jump _⟩
  | jr e => exact ⟨_, rfl, (h0 _ _).jump _⟩
  | jrCond cc e => exact Effects.branch fun _ h => h.jump _
  | call nn => exact ⟨_, rfl, (h0 _ _).call _⟩
  | callCond cc nn => exact Effects.branch fun _ h => h.call _
  | ret => exact ⟨_, rfl, (h0 _ _).ret⟩
  | retCond cc => exact Effects.branch fun _ h => h.ret
  | reti => exact ⟨_, rfl, (h0 _ _).returnFromInterrupt⟩
  | rst t => exact ⟨_, rfl, (h0 _ _).call _⟩

/-- Every instruction has a next state, reached by the changes of `Effects`. -/
theorem exec_effects (i : Instr) (s : State) : ∃ t, exec i s = .next t ∧ Effects s t := by
  rw [exec_eq_run]
  exact Form.run_effects _ _

theorem Effects.of_exec {i : Instr} {s t : State} (h : exec i s = .next t) : Effects s t := by
  obtain ⟨u, hu, he⟩ := exec_effects i s
  rw [h] at hu
  cases hu
  exact he

/-- Parameters never change. -/
theorem Effects.params {s t : State} (h : Effects s t) : t.params = s.params :=
  h.keeps (P := fun t => t.params = s.params) rfl (fun _ _ _ h => h) (fun _ _ _ h => by simpa using h) fun _ h => h

/-- The images never change. -/
theorem Effects.images {s t : State} (h : Effects s t) : t.mem.rom = s.mem.rom ∧ t.mem.boot = s.mem.boot :=
  h.keeps (P := fun t => t.mem.rom = s.mem.rom ∧ t.mem.boot = s.mem.boot) ⟨rfl, rfl⟩ (fun _ _ _ h => h)
    (fun _ _ _ h => by simpa using h) fun _ h => h

/-! ## Stores and the registers -/

/-- `s` with other registers. -/
def State.withCore (s : State) (u : CpuState) (k : Nat) : State := { s with cpu := u, cycles := k }

theorem SameDevices.withCore (s : State) (u : CpuState) (k : Nat) : SameDevices s (s.withCore u k) :=
  ⟨rfl, rfl, rfl, rfl, rfl, rfl, rfl, rfl⟩

theorem SameMemory.withCore (s : State) (u : CpuState) (k : Nat) : SameMemory s (s.withCore u k) := SameMemory.of_eq rfl

@[simp] theorem State.withCore_read (s : State) (u : CpuState) (k : Nat) (a : Word) :
    (s.withCore u k).read a = s.read a := State.read_congr (SameDevices.withCore s u k) (SameMemory.withCore s u k) a

@[simp] theorem State.withCore_readRaw (s : State) (u : CpuState) (k : Nat) (a : Word) :
    (s.withCore u k).readRaw a = s.readRaw a :=
  State.readRaw_congr (SameDevices.withCore s u k) (SameMemory.withCore s u k) a

theorem State.withCore_dmaBytes (s : State) (u : CpuState) (k : Nat) (v : Byte) (n : Nat) :
    (s.withCore u k).dmaBytes v n = (s.dmaBytes v n).withCore u k := by
  induction n with
  | zero => rfl
  | succ n ih =>
    rw [State.dmaBytes, State.dmaBytes, ih, State.dmaByte, State.dmaByte, State.withCore_readRaw]
    rfl

theorem State.withCore_ioWrite (s : State) (u : CpuState) (k : Nat) (r : IoReg) (v : Byte) :
    (s.withCore u k).ioWrite r v = (s.ioWrite r v).withCore u k := by
  cases r with
  | dma =>
    simp only [State.ioWrite]
    generalize 160 = n
    exact State.withCore_dmaBytes { s with ppu := { s.ppu with dma := v } } u k v n
  | bootoff =>
    simp only [State.ioWrite]
    split <;> rfl
  | _ => rfl

theorem State.withCore_cartWriteControl (s : State) (u : CpuState) (k : Nat) (a : Nat) (v : Byte) :
    (s.withCore u k).cartWriteControl a v = (s.cartWriteControl a v).withCore u k := by
  simp only [State.cartWriteControl, show (s.withCore u k).params = s.params from rfl]
  repeat' split
  all_goals rfl

/-- A bus write does not look at the registers: it commutes with every change of them. -/
theorem State.withCore_write (s : State) (u : CpuState) (k : Nat) (a : Word) (v : Byte) :
    (s.withCore u k).write a v = (s.write a v).withCore u k := by
  simp only [State.write, show (s.withCore u k).denied a = s.denied a from rfl,
    show (s.withCore u k).place a = s.place a from rfl, State.withCore_cartWriteControl]
  split
  · rfl
  split
  · rfl
  unfold State.writePlace
  split
  · rfl
  · exact State.withCore_ioWrite s u k _ v
  · rfl
  · rfl

/-- A store stays a store when registers change after it. -/
theorem StoredByte.withCore {a : Word} {v : Byte} {s t : State} (h : StoredByte a v s t) (u : CpuState) (k : Nat) :
    StoredByte a v s (t.withCore u k) where
  control h1 := ⟨(h.control h1).1.trans (SameMemory.withCore t u k), (h.control h1).2.trans (SameDevices.withCore t u k)⟩
  denied h1 h2 :=
    ⟨(h.denied h1 h2).1.trans (SameMemory.withCore t u k), (h.denied h1 h2).2.trans (SameDevices.withCore t u k)⟩
  unmapped h1 h2 h3 :=
    ⟨(h.unmapped h1 h2 h3).1.trans (SameMemory.withCore t u k),
      (h.unmapped h1 h2 h3).2.trans (SameDevices.withCore t u k)⟩
  cell r off h1 h2 h3 := by
    obtain ⟨p, q, m, b, d⟩ := h.cell r off h1 h2 h3
    refine ⟨p, ?_, m, fun x hx => ?_, d.trans (SameDevices.withCore t u k)⟩
    · rw [State.withCore_read, q]
    · rw [State.withCore_read, b x hx]
  ie h1 h2 h3 := ⟨(h.ie h1 h2 h3).1.trans (SameMemory.withCore t u k), (h.ie h1 h2 h3).2.trans (SameDevices.withCore t u k)⟩
  io r h1 h2 h3 :=
    ⟨(h.io r h1 h2 h3).1.trans (SameDevices.withCore t u k), (h.io r h1 h2 h3).2.1.trans (SameMemory.withCore t u k),
      fun hr => ((h.io r h1 h2 h3).2.2 hr).trans (SameMemory.withCore t u k)⟩

/-- A store made after registers changed is a store made from the state before. -/
theorem State.write_storedByte_withCore (s : State) (u : CpuState) (k : Nat) (a : Word) (v : Byte) :
    StoredByte a v s ((s.withCore u k).write a v) := by
  rw [State.withCore_write]
  exact (State.write_storedByte s a v).withCore u k

/-- Pushing a word is two stores, high byte first, and lowers `sp` by two. -/
theorem State.push16_eq (s : State) (v : Word) :
    s.push16 v = ((s.write (s.cpu.sp - 1#16) (v.extractLsb' 8 8)).write (s.cpu.sp - 2#16) (v.extractLsb' 0 8)).withCore
      { s.cpu with sp := s.cpu.sp - 2#16 } s.cycles := by
  let x : State := (s.withCore { s.cpu with sp := s.cpu.sp - 1#16 } s.cycles).write (s.cpu.sp - 1#16) (v.extractLsb' 8 8)
  have h : s.push16 v = (x.withCore { s.cpu with sp := s.cpu.sp - 1#16 - 1#16 } x.cycles).write (s.cpu.sp - 1#16 - 1#16)
      (v.extractLsb' 0 8) := by
    simp only [State.push16, State.write_cpu]
    rfl
  have h2 : s.cpu.sp - 1#16 - 1#16 = s.cpu.sp - 2#16 := by bv_omega
  have hx : x = (s.write (s.cpu.sp - 1#16) (v.extractLsb' 8 8)).withCore { s.cpu with sp := s.cpu.sp - 1#16 } s.cycles :=
    State.withCore_write _ _ _ _ _
  rw [h, h2, State.withCore_write, hx, State.withCore_write]
  rfl

@[simp] theorem State.push16_cpu (s : State) (v : Word) : (s.push16 v).cpu = { s.cpu with sp := s.cpu.sp - 2#16 } := by
  rw [State.push16_eq]
  rfl

@[simp] theorem State.push16_cycles (s : State) (v : Word) : (s.push16 v).cycles = s.cycles := by
  rw [State.push16_eq]
  rfl

/-- A push as two stores, in the sense of `StoredByte`. -/
theorem State.push16_stores (s : State) (v : Word) :
    StoredByte (s.cpu.sp - 1#16) (v.extractLsb' 8 8) s (s.write (s.cpu.sp - 1#16) (v.extractLsb' 8 8))
      ∧ StoredByte (s.cpu.sp - 2#16) (v.extractLsb' 0 8) (s.write (s.cpu.sp - 1#16) (v.extractLsb' 8 8)) (s.push16 v) := by
  refine ⟨State.write_storedByte _ _ _, ?_⟩
  rw [State.push16_eq]
  exact (State.write_storedByte _ _ _).withCore _ _

end Sys2Proof.Machine
end

