-- ==== Sys2Proof/Laws/Devices.lean ====
section
/-! SUPPORT. What the device advances can do, said once each: which part of the state a tick can change, and that it keeps
the part of the invariant that speaks of that device. -/

namespace Sys2Proof.Machine

/-! ## Timer -/

/-- The timer's advance changes the timer and the pending flags alone, and of the timer neither `TMA` nor `TAC`. -/
def TimerMove (s t : State) : Prop :=
  ∃ (d : BitVec 16) (c : Byte) (b : Nat) (f : BitVec 5),
    t = { s with
      timer := { s.timer with divCounter := d, tima := c, timaSub := b }
      intr := { s.intr with pendingFlags := f } }

theorem TimerMove.refl (s : State) : TimerMove s s := ⟨_, _, _, _, rfl⟩

theorem TimerMove.trans {s t u : State} (h : TimerMove s t) (k : TimerMove t u) : TimerMove s u := by
  obtain ⟨_, _, _, _, rfl⟩ := h
  obtain ⟨_, _, _, _, rfl⟩ := k
  exact ⟨_, _, _, _, rfl⟩

theorem State.timerIncrement_move (s : State) : TimerMove s s.timerIncrement := by
  unfold State.timerIncrement
  split
  · exact ⟨_, _, _, _, rfl⟩
  · exact ⟨_, _, _, _, rfl⟩

theorem State.timerIncrements_move (s : State) (n : Nat) : TimerMove s (s.timerIncrements n) := by
  induction n with
  | zero => exact TimerMove.refl s
  | succ n ih => exact ih.trans (State.timerIncrement_move _)

theorem State.timerTick_move (s : State) (n : Nat) : TimerMove s (s.timerTick n) := by
  unfold State.timerTick
  dsimp only
  split
  · exact TimerMove.trans ⟨_, _, _, _, rfl⟩ (State.timerIncrements_move _ _)
  · exact ⟨_, _, _, _, rfl⟩

@[simp] theorem State.timerIncrements_timaSub (s : State) (n : Nat) :
    (s.timerIncrements n).timer.timaSub = s.timer.timaSub := by
  induction n with
  | zero => rfl
  | succ n ih =>
    rw [State.timerIncrements, State.timerIncrement]
    split
    · exact ih
    · exact ih

theorem TimerState.period_pos (t : TimerState) : 0 < t.period := by
  unfold TimerState.period
  split <;> omega

theorem TimerState.period_le (t : TimerState) : t.period ≤ 1024 := by
  unfold TimerState.period
  split <;> omega

/-- After a tick the prescaler is below the period while the timer counts. -/
theorem State.timerTick_ok (s : State) (n : Nat) (h : s.timer.timaSub < 1024) : (s.timerTick n).timer.ok := by
  obtain ⟨d, c, b, f, e⟩ := s.timerTick_move n
  have htac : (s.timerTick n).timer.tac = s.timer.tac := by rw [e]
  have hper : (s.timerTick n).timer.period = s.timer.period := by simp only [TimerState.period, htac]
  by_cases hen : s.timer.tac.getLsbD 2 = true
  · have hsub : (s.timerTick n).timer.timaSub = (s.timer.timaSub + n) % s.timer.period := by
      unfold State.timerTick
      dsimp only
      rw [if_pos hen, State.timerIncrements_timaSub]
      rfl
    have hlt := Nat.mod_lt (s.timer.timaSub + n) s.timer.period_pos
    have hle := s.timer.period_le
    exact ⟨by omega, fun _ => by omega⟩
  · have hsub : (s.timerTick n).timer.timaSub = s.timer.timaSub := by
      unfold State.timerTick
      dsimp only
      rw [if_neg hen]
    exact ⟨by omega, fun h2 => absurd (htac ▸ h2) hen⟩

/-! ## Serial port -/

/-- The serial port's advance changes the port and the pending flags alone, and sends nothing. -/
def SerialMove (s t : State) : Prop :=
  ∃ (b : Byte) (st : Bool) (n : Nat) (f : BitVec 5), n ≤ s.serial.serialCount ∧
    t = { s with
      serial := { s.serial with sb := b, scStart := st, serialCount := n }
      intr := { s.intr with pendingFlags := f } }

theorem State.serialTick_move (s : State) (n : Nat) : SerialMove s (s.serialTick n) := by
  unfold State.serialTick
  split
  · split
    · exact ⟨_, _, _, _, Nat.zero_le _, rfl⟩
    · exact ⟨_, _, _, _, Nat.sub_le _ _, rfl⟩
  · exact ⟨_, _, _, _, Nat.le_refl _, rfl⟩

/-! ## PPU -/

/-- The PPU's advance changes the position, the framebuffer, the published frames and the pending flags alone: no register of
the PPU, no memory. -/
def PpuMove (s t : State) : Prop :=
  ∃ (m : Mode) (l : Byte) (d : Nat) (fb : Framebuffer) (fr : List Framebuffer) (f : BitVec 5),
    t = { s with
      ppu := { s.ppu with mode := m, ly := l, dot := d, fb := fb, frames := fr }
      intr := { s.intr with pendingFlags := f } }

theorem PpuMove.refl (s : State) : PpuMove s s := ⟨_, _, _, _, _, _, rfl⟩

theorem PpuMove.trans {s t u : State} (h : PpuMove s t) (k : PpuMove t u) : PpuMove s u := by
  obtain ⟨_, _, _, _, _, _, rfl⟩ := h
  obtain ⟨_, _, _, _, _, _, rfl⟩ := k
  exact ⟨_, _, _, _, _, _, rfl⟩

theorem State.statIf_move (s : State) (k : Nat) : PpuMove s (s.statIf k) := by
  unfold State.statIf
  split <;> exact ⟨_, _, _, _, _, _, rfl⟩

theorem State.lycCheck_move (s : State) : PpuMove s s.lycCheck := by
  unfold State.lycCheck
  split
  · exact State.statIf_move _ _
  · exact PpuMove.refl s

theorem State.enterMode_move (s : State) (m : Mode) : PpuMove s (s.enterMode m) := ⟨_, _, _, _, _, _, rfl⟩

theorem State.setLy_move (s : State) (v : Byte) : PpuMove s (s.setLy v) := ⟨_, _, _, _, _, _, rfl⟩

theorem State.endOfMode_move (s : State) : PpuMove s s.endOfMode := by
  unfold State.endOfMode
  split
  · exact State.enterMode_move _ _
  · refine PpuMove.trans ?_ (State.statIf_move _ _)
    exact PpuMove.trans ⟨_, _, _, _, _, _, rfl⟩ (State.enterMode_move _ _)
  · unfold State.endHorizontalBlank
    dsimp only
    split
    · refine PpuMove.trans ?_ (State.lycCheck_move _)
      refine PpuMove.trans (t := ((((s.setLy (s.ppu.ly + 1#8)).enterMode .verticalBlank).request .vblank).statIf 4)) ?_
        ⟨_, _, _, _, _, _, rfl⟩
      refine PpuMove.trans ?_ (State.statIf_move _ _)
      exact ⟨_, _, _, _, _, _, rfl⟩
    · refine PpuMove.trans ?_ (State.lycCheck_move _)
      exact PpuMove.trans ⟨_, _, _, _, _, _, rfl⟩ (State.statIf_move _ _)
  · unfold State.endVerticalBlankLine
    dsimp only
    split
    · refine PpuMove.trans ?_ (State.lycCheck_move _)
      exact PpuMove.trans ⟨_, _, _, _, _, _, rfl⟩ (State.statIf_move _ _)
    · exact PpuMove.trans ⟨_, _, _, _, _, _, rfl⟩ (State.lycCheck_move _)

theorem State.ppuTick1_move (s : State) : PpuMove s s.ppuTick1 := by
  unfold State.ppuTick1
  split
  · dsimp only
    split
    · exact PpuMove.trans ⟨_, _, _, _, _, _, rfl⟩ (State.endOfMode_move _)
    · exact ⟨_, _, _, _, _, _, rfl⟩
  · exact PpuMove.refl s

theorem State.ppuTick_move (s : State) (n : Nat) : PpuMove s (s.ppuTick n) := by
  induction n with
  | zero => exact PpuMove.refl s
  | succ n ih => exact ih.trans (State.ppuTick1_move _)

/-! ### The position of the PPU -/

/-- Mode, scanline and in-mode counter. -/
def PpuState.position (p : PpuState) : Mode × Byte × Nat := (p.mode, p.ly, p.dot)

/-- Where the position goes when the budget of a mode is used up. -/
def positionAfter (m : Mode) (l : Byte) : Mode × Byte × Nat :=
  match m with
  | .oamSearch => (.pixelTransfer, l, 0)
  | .pixelTransfer => (.horizontalBlank, l, 0)
  | .horizontalBlank => if l + 1#8 = 144#8 then (.verticalBlank, l + 1#8, 0) else (.oamSearch, l + 1#8, 0)
  | .verticalBlank => if l + 1#8 = 154#8 then (.oamSearch, 0#8, 0) else (.verticalBlank, l + 1#8, 0)

/-- One cycle of the position, LCD on. -/
def nextPosition : Mode × Byte × Nat → Mode × Byte × Nat
  | (m, l, d) => if d + 1 = m.budget then positionAfter m l else (m, l, d + 1)

theorem State.endOfMode_position (s : State) : s.endOfMode.ppu.position = positionAfter s.ppu.mode s.ppu.ly := by
  unfold State.endOfMode
  split
  · rename_i h
    rw [h]
    rfl
  · rename_i h
    rw [h, State.endPixelTransfer, State.statIf_ppu]
    rfl
  · rename_i h
    rw [h]
    simp only [State.endHorizontalBlank, positionAfter]
    by_cases h1 : s.ppu.ly + 1#8 = 144#8
    · rw [if_pos h1, if_pos (show (s.setLy (s.ppu.ly + 1#8)).ppu.ly = 144#8 from h1), State.lycCheck_ppu]
      simp only [State.publishFrame, State.statIf_ppu]
      rfl
    · rw [if_neg h1, if_neg (show ¬ (s.setLy (s.ppu.ly + 1#8)).ppu.ly = 144#8 from h1), State.lycCheck_ppu,
        State.statIf_ppu]
      rfl
  · rename_i h
    rw [h]
    simp only [State.endVerticalBlankLine, positionAfter]
    by_cases h1 : s.ppu.ly + 1#8 = 154#8
    · rw [if_pos h1, if_pos (show (s.setLy (s.ppu.ly + 1#8)).ppu.ly = 154#8 from h1), State.lycCheck_ppu,
        State.statIf_ppu]
      rfl
    · rw [if_neg h1, if_neg (show ¬ (s.setLy (s.ppu.ly + 1#8)).ppu.ly = 154#8 from h1), State.lycCheck_ppu]
      rfl

/-- The position after one cycle depends on the position alone. -/
theorem State.ppuTick1_position (s : State) :
    s.ppuTick1.ppu.position = if s.lcdOn then nextPosition s.ppu.position else s.ppu.position := by
  unfold State.ppuTick1
  split
  · show (if s.ppu.dot + 1 = s.ppu.mode.budget then
        ({ s with ppu := { s.ppu with dot := s.ppu.dot + 1 } } : State).endOfMode
      else { s with ppu := { s.ppu with dot := s.ppu.dot + 1 } }).ppu.position
        = if s.ppu.dot + 1 = s.ppu.mode.budget then positionAfter s.ppu.mode s.ppu.ly
          else (s.ppu.mode, s.ppu.ly, s.ppu.dot + 1)
    by_cases h : s.ppu.dot + 1 = s.ppu.mode.budget
    · rw [if_pos h, if_pos h]
      exact State.endOfMode_position _
    · rw [if_neg h, if_neg h]
      rfl
  · rfl

/-- The bounds of a position while the LCD is on (10_state.md R31). -/
def positionOk : Mode × Byte × Nat → Prop
  | (m, l, d) => l.toNat ≤ 153 ∧ d < m.budget ∧ (m = .verticalBlank ↔ 144 ≤ l.toNat)

theorem nextPosition_ok {p : Mode × Byte × Nat} (h : positionOk p) : positionOk (nextPosition p) := by
  obtain ⟨m, l, d⟩ := p
  obtain ⟨hl, hd, hm⟩ := h
  have hl1 : (l + 1#8).toNat = l.toNat + 1 := by
    rw [BitVec.toNat_add]
    simp only [BitVec.reduceToNat]
    omega
  have h144 : l + 1#8 = 144#8 ↔ l.toNat + 1 = 144 := by
    rw [← BitVec.toNat_inj, hl1]
    exact Iff.rfl
  have h154 : l + 1#8 = 154#8 ↔ l.toNat + 1 = 154 := by
    rw [← BitVec.toNat_inj, hl1]
    exact Iff.rfl
  unfold nextPosition positionAfter
  dsimp only
  split
  · cases m
    · exact ⟨hl, by decide, by simpa using hm⟩
    · exact ⟨hl, by decide, by simpa using hm⟩
    · have hv : l.toNat < 144 := by simpa using hm
      dsimp only
      split
      · rename_i h1
        have := h144.1 h1
        exact ⟨by omega, by decide, by simp; omega⟩
      · rename_i h1
        have : l.toNat + 1 ≠ 144 := fun e => h1 (h144.2 e)
        exact ⟨by omega, by decide, by simp; omega⟩
    · have hv : 144 ≤ l.toNat := hm.1 rfl
      dsimp only
      split
      · exact ⟨by decide, by decide, by decide⟩
      · rename_i h1
        have : l.toNat + 1 ≠ 154 := fun e => h1 (h154.2 e)
        exact ⟨by omega, by decide, by simp; omega⟩
  · refine ⟨hl, ?_, hm⟩
    omega

/-- A tick keeps the PPU's part of the invariant. -/
theorem State.ppuTick1_ok (s : State) (h : s.ppu.Ok) : s.ppuTick1.ppu.Ok := by
  by_cases hon : s.ppu.lcdc.getLsbD 7 = true
  · have hpos := s.ppuTick1_position
    rw [if_pos (show s.lcdOn = true from hon)] at hpos
    have hlcdc : s.ppuTick1.ppu.lcdc = s.ppu.lcdc := by
      obtain ⟨m, l, d, fb, fr, f, e⟩ := s.ppuTick1_move
      rw [e]
    have hok : positionOk s.ppuTick1.ppu.position :=
      hpos ▸ nextPosition_ok ⟨h.ly, h.dot, h.vblank hon⟩
    obtain ⟨hl, hd, hm⟩ := hok
    exact ⟨hl, hd, fun _ => hm, fun hoff => by rw [hlcdc, hon] at hoff; cases hoff⟩
  · have hs : s.ppuTick1 = s := by
      unfold State.ppuTick1
      exact if_neg hon
    rw [hs]
    exact h

theorem State.ppuTick_ok (s : State) (n : Nat) (h : s.ppu.Ok) : (s.ppuTick n).ppu.Ok := by
  induction n with
  | zero => exact h
  | succ n ih => exact State.ppuTick1_ok _ ih

end Sys2Proof.Machine
end

