-- ==== Sys2Proof/Laws/Frames.lean ====
section
/-! SUPPORT. Frames of the register updates and of stores, in the terms of Sys2Proof/Safety.lean: what writing a register, a
pair, a location or the flags leaves alone. -/

namespace Sys2Proof.Machine

/-! ## Registers -/

@[simp] theorem CpuState.setReg_reg (u : CpuState) (r : Reg8) (v : Byte) : (u.setReg r v).reg r = v := by
  cases r <;> rfl

theorem CpuState.setReg_other (u : CpuState) {r q : Reg8} (v : Byte) (h : q ≠ r) : (u.setReg r v).reg q = u.reg q := by
  cases r <;> cases q <;> first | rfl | exact absurd rfl h

@[simp] theorem CpuState.setReg_flags (u : CpuState) (r : Reg8) (v : Byte) : (u.setReg r v).flags = u.flags := by
  cases r <;> rfl

@[simp] theorem CpuState.setReg_pc (u : CpuState) (r : Reg8) (v : Byte) : (u.setReg r v).pc = u.pc := by
  cases r <;> rfl

@[simp] theorem CpuState.setReg_sp (u : CpuState) (r : Reg8) (v : Byte) : (u.setReg r v).sp = u.sp := by
  cases r <;> rfl

@[simp] theorem CpuState.setPair_pair (u : CpuState) (p : Pair) (v : Word) : (u.setPair p v).pair p = v := by
  have h : v.extractLsb' 8 8 ++ v.extractLsb' 0 8 = v := by
    ext i hi
    simp only [BitVec.getElem_append, BitVec.getElem_extractLsb']
    split
    · simp [BitVec.getLsbD_eq_getElem hi]
    · have h8 : 8 + (i - 8) = i := by omega
      rw [h8, BitVec.getLsbD_eq_getElem hi]
  cases p <;> first | exact h | rfl

theorem CpuState.setPair_reg (u : CpuState) (p : Pair) (v : Word) {r : Reg8} (h : r ∉ pairRegs p) :
    (u.setPair p v).reg r = u.reg r := by
  cases p <;> cases r <;> first | rfl | exact absurd (by decide) h

@[simp] theorem CpuState.setPair_flags (u : CpuState) (p : Pair) (v : Word) : (u.setPair p v).flags = u.flags := by
  cases p <;> rfl

@[simp] theorem CpuState.setPair_pc (u : CpuState) (p : Pair) (v : Word) : (u.setPair p v).pc = u.pc := by
  cases p <;> rfl

theorem CpuState.setPair_sp (u : CpuState) {p : Pair} (v : Word) (h : p ≠ .sp) : (u.setPair p v).sp = u.sp := by
  cases p <;> first | rfl | exact absurd rfl h

/-- The control bits of the CPU are untouched, but for `halt_bug`, which is clear. -/
def CpuState.controlOf (u v : CpuState) : Prop :=
  v.ime = u.ime ∧ v.imePending = u.imePending ∧ v.halted = u.halted ∧ v.stopped = u.stopped ∧ v.fault = u.fault
    ∧ v.haltBug = false

theorem ControlKept.of_cpu {s t : State} (h : s.cpu.controlOf t.cpu) : ControlKept s t :=
  ⟨h.1, h.2.1, h.2.2.1, h.2.2.2.1, h.2.2.2.2.1, h.2.2.2.2.2⟩

/-! ## Nothing stored -/

theorem NothingStored.withCore (s : State) (u : CpuState) (k : Nat) : NothingStored s (s.withCore u k) :=
  ⟨SameDevices.withCore s u k, SameMemory.withCore s u k, fun a => State.withCore_read s u k a⟩

/-- An instruction that changes registers alone has the frame of the registers it writes. -/
theorem RegisterFrame.withCore (w : List Reg8) (s : State) (u : CpuState) (k : Nat)
    (hr : ∀ r, r ∉ w → u.reg r = s.cpu.reg r) (hc : s.cpu.controlOf u) (hs : u.sp = s.cpu.sp) :
    RegisterFrame w s (s.withCore u k) :=
  ⟨hr, ControlKept.of_cpu hc, hs, NothingStored.withCore s u k⟩

/-- A load of one register. -/
theorem Loaded.setReg (s : State) (dst : Reg8) (v : Byte) (n k : Nat) :
    Loaded dst v n k s ((s.consume n k).mapCpu fun u => u.setReg dst v) where
  advanced := by cases dst <;> exact ⟨rfl, rfl⟩
  value := CpuState.setReg_reg _ _ _
  flags := CpuState.setReg_flags _ _ _
  frame :=
    RegisterFrame.withCore [dst] s ((s.consume n k).cpu.setReg dst v) k
      (fun r hr => (CpuState.setReg_other _ v (by simpa using hr)).trans (State.consume_reg s n k r))
      (by cases dst <;> exact ⟨rfl, rfl, rfl, rfl, rfl, rfl⟩) (CpuState.setReg_sp _ _ _)

/-- A result in `A` and the flags. -/
theorem SetsA.setResult (s : State) (r : Result8) (n k : Nat) :
    SetsA r.val r.flags n k s ((s.consume n k).setResult r) where
  advanced := ⟨rfl, rfl⟩
  value := rfl
  flags := rfl
  frame :=
    RegisterFrame.withCore [.a] s { (s.consume n k).cpu with a := r.val, flags := r.flags } k
      (fun q hq => by cases q <;> first | rfl | exact absurd (by decide) hq) ⟨rfl, rfl, rfl, rfl, rfl, rfl⟩ rfl

/-- A write of a pair. -/
theorem SetsPair.setPair (s : State) (p : Pair) (v : Word) (n k : Nat) :
    SetsPair p v n k s ((s.consume n k).mapCpu fun u => u.setPair p v) where
  advanced := by cases p <;> exact ⟨rfl, rfl⟩
  value := CpuState.setPair_pair _ _ _
  sp h := CpuState.setPair_sp _ v h
  regs r hr := (CpuState.setPair_reg _ p v hr).trans (State.consume_reg s n k r)
  control := ControlKept.of_cpu (by cases p <;> exact ⟨rfl, rfl, rfl, rfl, rfl, rfl⟩)
  stores := NothingStored.withCore s ((s.consume n k).cpu.setPair p v) k

/-- A jump. -/
theorem Jumped.jump (s : State) (target : Word) (n k : Nat) : Jumped target k s ((s.consume n k).jump target) where
  pc := rfl
  cycles := rfl
  flags := rfl
  frame :=
    RegisterFrame.withCore [] s { (s.consume n k).cpu with pc := target } k
      (fun r _ => by cases r <;> rfl) ⟨rfl, rfl, rfl, rfl, rfl, rfl⟩ rfl

/-- Nothing but the advance. -/
theorem Jumped.consume (s : State) (n k : Nat) : Jumped (s.after n) k s (s.consume n k) where
  pc := rfl
  cycles := rfl
  flags := rfl
  frame :=
    RegisterFrame.withCore [] s (s.consume n k).cpu k (fun r _ => by cases r <;> rfl) ⟨rfl, rfl, rfl, rfl, rfl, rfl⟩ rfl

/-! ## Stores -/

@[simp] theorem State.write16_cpu (s : State) (a v : Word) : (s.write16 a v).cpu = s.cpu := by
  rw [State.write16, State.write_cpu, State.write_cpu]

@[simp] theorem State.write16_cycles (s : State) (a v : Word) : (s.write16 a v).cycles = s.cycles := by
  rw [State.write16, State.write_cycles, State.write_cycles]

/-- The halves of a word put together. -/
@[simp] theorem word_of_halves (v : Word) : v.extractLsb' 8 8 ++ v.extractLsb' 0 8 = v :=
  CpuState.setPair_pair CpuState.direct .bc v

@[simp] theorem high_half (a b : Byte) : (a ++ b : Word).extractLsb' 8 8 = a := by
  apply BitVec.eq_of_getLsbD_eq
  intro i hi
  have h : ¬ 8 + i < 8 := by omega
  have e : (a ++ b : Word).getLsbD (8 + i) = _ := BitVec.getLsbD_append
  rw [BitVec.getLsbD_extractLsb', e]
  simp [hi, h]

@[simp] theorem low_half (a b : Byte) : (a ++ b : Word).extractLsb' 0 8 = b := by
  apply BitVec.eq_of_getLsbD_eq
  intro i hi
  have e : (a ++ b : Word).getLsbD (0 + i) = _ := BitVec.getLsbD_append
  rw [BitVec.getLsbD_extractLsb', e]
  simp [hi]

/-- The store of an instruction is a store from the state before it. -/
theorem State.consume_write_stored (s : State) (n k : Nat) (a : Word) (v : Byte) :
    StoredByte a v s ((s.consume n k).write a v) := State.write_storedByte_withCore s (s.consume n k).cpu k a v

/-- An instruction that stores one byte and changes nothing else. -/
theorem Stored.write (s : State) (a : Word) (v : Byte) (n k : Nat) :
    Stored a v n k s ((s.consume n k).write a v) where
  advanced := ⟨by rw [State.write_cpu]; rfl, by rw [State.write_cycles]; rfl⟩
  store := State.consume_write_stored s n k a v
  cpu :=
    { regs := fun r _ => by rw [State.write_cpu]; exact State.consume_reg s n k r
      flags := by rw [State.write_cpu]; rfl
      sp := by rw [State.write_cpu]; rfl
      control := ControlKept.of_cpu (by rw [State.write_cpu]; exact ⟨rfl, rfl, rfl, rfl, rfl, rfl⟩) }

/-- A push made by an instruction. -/
theorem Pushed.push16 (s : State) (v : Word) (n k : Nat) : Pushed v s ((s.consume n k).push16 v) where
  stores :=
    ⟨_, State.consume_write_stored s n k _ _, by
      rw [State.push16_eq]
      exact (State.write_storedByte _ _ _).withCore _ _⟩
  sp := by rw [State.push16_cpu]; rfl
  regs r _ := by rw [State.push16_cpu]; cases r <;> rfl
  flags := by rw [State.push16_cpu]; rfl
  control := ControlKept.of_cpu (by rw [State.push16_cpu]; exact ⟨rfl, rfl, rfl, rfl, rfl, rfl⟩)

/-- The high-page address as a sum. -/
theorem highPage_eq (n : Byte) : highPage n = 0xFF00#16 + n.setWidth 16 := by
  revert n
  decide

end Sys2Proof.Machine
end

