-- ==== Sys2Proof/Laws/Step.lean ====
section
/-! SUPPORT. Everything a machine step can do, said once: its cases, and the induction principle that a property kept by each
kind of change is kept by a step. -/

namespace Sys2Proof.Machine

/-- The CPU step always has a next state. -/
theorem State.cpuStep_next (s : State) : ∃ t, s.cpuStep = .next t := by
  unfold State.cpuStep
  split
  · exact ⟨_, rfl⟩
  · dsimp only
    split
    · exact ⟨_, rfl⟩
    · obtain ⟨t, ht, -⟩ := exec_effects s.delayedEnable.fetched s.delayedEnable
      rw [ht]
      dsimp only
      split <;> exact ⟨_, rfl⟩

/-- The cases of a CPU step. -/
theorem State.cpuStep_cases {s t : State} (h : s.cpuStep = .next t) :
    (s.cpu.stopped = true ∧ t = { s with cycles := 0 })
    ∨ (s.cpu.stopped = false ∧ s.cpu.halted = true ∧ t = s.delayedEnable.haltedIdle.interruptCheck)
    ∨ (s.cpu.stopped = false ∧ s.cpu.halted = false ∧
        ∃ u, exec s.delayedEnable.fetched s.delayedEnable = .next u ∧
          t = if u.cpu.fault.isSome then u else u.interruptCheck) := by
  unfold State.cpuStep at h
  split at h
  · cases h
    exact .inl ⟨‹_›, rfl⟩
  · rename_i hst
    have hst := Bool.eq_false_iff.2 hst
    dsimp only at h
    split at h
    · rename_i hh
      cases h
      exact .inr (.inl ⟨hst, by simpa using hh, rfl⟩)
    · rename_i hh
      obtain ⟨u, hu, -⟩ := exec_effects s.delayedEnable.fetched s.delayedEnable
      rw [hu] at h
      refine .inr (.inr ⟨hst, by simpa using hh, u, hu, ?_⟩)
      dsimp only at h
      split at h <;> cases h <;> simp_all

/-- The cases of a machine step: a fault is set, or a CPU step and the advances. -/
theorem step_cases {s t : State} (h : step s = .next t) :
    s.cpu.fault = none ∧ ∃ u, s.cpuStep = .next u ∧ t = u.advance := by
  unfold step State.machineStep at h
  split at h
  · cases h
  · obtain ⟨u, hu⟩ := s.cpuStep_next
    rw [hu] at h
    cases h
    exact ⟨‹_›, u, hu, rfl⟩

/-- A step without a fault set is a CPU step and the advances. -/
theorem step_eq {s u : State} (hf : s.cpu.fault = none) (hu : s.cpuStep = .next u) : step s = .next u.advance := by
  unfold step State.machineStep
  rw [hf, hu]

/-- The cases of the interrupt check. -/
theorem State.interruptCheck_cases (s : State) :
    (s.interruptCheck = s ∧ (s.cpu.ime = false ∨ s.selected = none))
    ∨ ∃ n, s.cpu.ime = true ∧ s.selected = some n ∧
        s.interruptCheck = { s.takeInterrupt n with cycles := (s.takeInterrupt n).cycles + 20 } := by
  unfold State.interruptCheck
  split
  · rename_i h
    split
    · rename_i n hn
      exact .inr ⟨n, h, hn, rfl⟩
    · rename_i hn
      exact .inl ⟨rfl, .inr hn⟩
  · rename_i h
    exact .inl ⟨rfl, .inl (Bool.eq_false_iff.2 h)⟩

/-- A property kept by every kind of change that a step is made of. -/
structure Kept (P : State → Prop) : Prop where
  core : ∀ s u k, P s → P { s with cpu := u, cycles := k }
  write : ∀ s a v, P s → P (s.write a v)
  divider : ∀ s, P s → P { s with timer := { s.timer with divCounter := 0#16 } }
  pending : ∀ s f, P s → P { s with intr := { s.intr with pendingFlags := f } }
  timer : ∀ s n, P s → P (s.timerTick n)
  ppu : ∀ s n, P s → P (s.ppuTick n)
  serial : ∀ s n, P s → P (s.serialTick n)

theorem Kept.push16 {P : State → Prop} (k : Kept P) {s : State} (h : P s) (v : Word) : P (s.push16 v) := by
  rw [State.push16_eq]
  exact k.core _ _ _ (k.write _ _ _ (k.write _ _ _ h))

theorem Kept.interruptCheck {P : State → Prop} (k : Kept P) {s : State} (h : P s) : P s.interruptCheck := by
  rcases s.interruptCheck_cases with ⟨e, -⟩ | ⟨n, -, -, e⟩
  · rw [e]
    exact h
  · rw [e]
    let x : State := { s with
      cpu := { s.cpu with halted := false, ime := false }
      intr := { s.intr with pendingFlags := s.intr.pendingFlags &&& ~~~n.mask } }
    have h1 : P x := k.core _ { s.cpu with halted := false, ime := false } s.cycles (k.pending s _ h)
    have h2 : P (x.push16 x.cpu.pc) := k.push16 h1 _
    exact k.core (x.push16 x.cpu.pc) { (x.push16 x.cpu.pc).cpu with pc := n.vector } _ h2

theorem Kept.delayedEnable {P : State → Prop} (k : Kept P) {s : State} (h : P s) : P s.delayedEnable := by
  unfold State.delayedEnable
  split
  · exact k.core _ _ s.cycles h
  · exact h

theorem Kept.exec {P : State → Prop} (k : Kept P) {i : Instr} {s t : State} (h : P s)
    (e : Machine.exec i s = .next t) : P t := (Effects.of_exec e).keeps h k.core k.write k.divider

/-- A step keeps what its parts keep. -/
theorem Kept.step {P : State → Prop} (k : Kept P) {s t : State} (h : P s) (e : Machine.step s = .next t) : P t := by
  obtain ⟨-, u, hu, rfl⟩ := step_cases e
  refine k.serial _ _ (k.ppu _ _ (k.timer _ _ ?_))
  rcases State.cpuStep_cases hu with ⟨-, rfl⟩ | ⟨-, -, rfl⟩ | ⟨-, -, v, hv, rfl⟩
  · exact k.core _ s.cpu _ h
  · exact k.interruptCheck (k.core _ _ _ (k.delayedEnable h))
  · have hv := k.exec (k.delayedEnable h) hv
    split
    · exact hv
    · exact k.interruptCheck hv

end Sys2Proof.Machine
end

