-- ==== Sys2Proof/Tests/Slice0.lean ====
section
/-! SUPPORT. Tests of the model on fixed values, and a witness for every statement that has hypotheses. Words are written from
the encodings of spec/opcode_table.json; expected results are those of spec/95_test_vectors.md. -/

namespace Sys2Proof.Tests

open Sys2Proof.Machine

/-! ## Helpers -/

/-- A part of the next state. -/
def seen {α : Type} (o : Out) (f : State → α) : Option α :=
  match o with
  | .next t => some (f t)
  | .fault _ => none
  | .refused _ => none

/-- Store bytes into `WRAM` by offset. -/
def withWram (s : State) : List Host.Cell → State
  | [] => s
  | (off, v) :: cs => withWram (s.writeCell .wram off v) cs

/-- "Unit setup" (95_test_vectors.md): direct profile, LCD off, `pc` 0xC000, `sp` 0xDFF0, `F` and `IF` zero, the code at 0xC000. -/
def unit (code : List Byte) : State :=
  let s := State.reset
  withWram
    { s with
      cpu := { s.cpu with flags := .ofByte 0x00#8, pc := 0xC000#16, sp := 0xDFF0#16 }
      intr := { pendingFlags := 0#5, enableMask := 0#8 }
      ppu := { s.ppu with lcdc := 0x00#8, mode := .horizontalBlank } }
    (code.zipIdx.map fun p => (p.2, p.1))

/-- Every pair is bytes and the instruction they decode to, with nothing left over. -/
def decodesAll (rows : List (List Byte × Instr)) : Bool :=
  rows.all fun p => match decode p.1 with
    | .ok (i, []) => i == p.2
    | .ok (_, _ :: _) => false
    | .error _ => false

/-! ## Decoding: every constructor -/

/-- Row 0x0_ of the first table (30_encoding.md R106), operand bytes 0x85, 0x34 0x92. -/
theorem test_decode_0x : decodesAll
    [([0x00#8], .nop),
     ([0x01#8, 0x34#8, 0x92#8], .ld_BC_nn 0x9234#16),
     ([0x02#8], .ld_atBC_A),
     ([0x03#8], .inc_BC),
     ([0x04#8], .inc_B),
     ([0x05#8], .dec_B),
     ([0x06#8, 0x85#8], .ld_B_n 0x85#8),
     ([0x07#8], .rlca),
     ([0x08#8, 0x34#8, 0x92#8], .ld_atNN_SP 0x9234#16),
     ([0x09#8], .add_HL_BC),
     ([0x0A#8], .ld_A_atBC),
     ([0x0B#8], .dec_BC),
     ([0x0C#8], .inc_C),
     ([0x0D#8], .dec_C),
     ([0x0E#8, 0x85#8], .ld_C_n 0x85#8),
     ([0x0F#8], .rrca)] = true := by decide

/-- Row 0x1_ of the first table (30_encoding.md R106), operand bytes 0x85, 0x34 0x92. -/
theorem test_decode_1x : decodesAll
    [([0x10#8, 0x85#8], .stop 0x85#8),
     ([0x11#8, 0x34#8, 0x92#8], .ld_DE_nn 0x9234#16),
     ([0x12#8], .ld_atDE_A),
     ([0x13#8], .inc_DE),
     ([0x14#8], .inc_D),
     ([0x15#8], .dec_D),
     ([0x16#8, 0x85#8], .ld_D_n 0x85#8),
     ([0x17#8], .rla),
     ([0x18#8, 0x85#8], .jr_e 0x85#8),
     ([0x19#8], .add_HL_DE),
     ([0x1A#8], .ld_A_atDE),
     ([0x1B#8], .dec_DE),
     ([0x1C#8], .inc_E),
     ([0x1D#8], .dec_E),
     ([0x1E#8, 0x85#8], .ld_E_n 0x85#8),
     ([0x1F#8], .rra)] = true := by decide

/-- Row 0x2_ of the first table (30_encoding.md R106), operand bytes 0x85, 0x34 0x92. -/
theorem test_decode_2x : decodesAll
    [([0x20#8, 0x85#8], .jr_NZ_e 0x85#8),
     ([0x21#8, 0x34#8, 0x92#8], .ld_HL_nn 0x9234#16),
     ([0x22#8], .ld_atHLi_A),
     ([0x23#8], .inc_HL),
     ([0x24#8], .inc_H),
     ([0x25#8], .dec_H),
     ([0x26#8, 0x85#8], .ld_H_n 0x85#8),
     ([0x27#8], .daa),
     ([0x28#8, 0x85#8], .jr_Z_e 0x85#8),
     ([0x29#8], .add_HL_HL),
     ([0x2A#8], .ld_A_atHLi),
     ([0x2B#8], .dec_HL),
     ([0x2C#8], .inc_L),
     ([0x2D#8], .dec_L),
     ([0x2E#8, 0x85#8], .ld_L_n 0x85#8),
     ([0x2F#8], .cpl)] = true := by decide

/-- Row 0x3_ of the first table (30_encoding.md R106), operand bytes 0x85, 0x34 0x92. -/
theorem test_decode_3x : decodesAll
    [([0x30#8, 0x85#8], .jr_NC_e 0x85#8),
     ([0x31#8, 0x34#8, 0x92#8], .ld_SP_nn 0x9234#16),
     ([0x32#8], .ld_atHLd_A),
     ([0x33#8], .inc_SP),
     ([0x34#8], .inc_atHL),
     ([0x35#8], .dec_atHL),
     ([0x36#8, 0x85#8], .ld_atHL_n 0x85#8),
     ([0x37#8], .scf),
     ([0x38#8, 0x85#8], .jr_C_e 0x85#8),
     ([0x39#8], .add_HL_SP),
     ([0x3A#8], .ld_A_atHLd),
     ([0x3B#8], .dec_SP),
     ([0x3C#8], .inc_A),
     ([0x3D#8], .dec_A),
     ([0x3E#8, 0x85#8], .ld_A_n 0x85#8),
     ([0x3F#8], .ccf)] = true := by decide

/-- Row 0x4_ of the first table (30_encoding.md R106), operand bytes 0x85, 0x34 0x92. -/
theorem test_decode_4x : decodesAll
    [([0x40#8], .ld_B_B),
     ([0x41#8], .ld_B_C),
     ([0x42#8], .ld_B_D),
     ([0x43#8], .ld_B_E),
     ([0x44#8], .ld_B_H),
     ([0x45#8], .ld_B_L),
     ([0x46#8], .ld_B_atHL),
     ([0x47#8], .ld_B_A),
     ([0x48#8], .ld_C_B),
     ([0x49#8], .ld_C_C),
     ([0x4A#8], .ld_C_D),
     ([0x4B#8], .ld_C_E),
     ([0x4C#8], .ld_C_H),
     ([0x4D#8], .ld_C_L),
     ([0x4E#8], .ld_C_atHL),
     ([0x4F#8], .ld_C_A)] = true := by decide

/-- Row 0x5_ of the first table (30_encoding.md R106), operand bytes 0x85, 0x34 0x92. -/
theorem test_decode_5x : decodesAll
    [([0x50#8], .ld_D_B),
     ([0x51#8], .ld_D_C),
     ([0x52#8], .ld_D_D),
     ([0x53#8], .ld_D_E),
     ([0x54#8], .ld_D_H),
     ([0x55#8], .ld_D_L),
     ([0x56#8], .ld_D_atHL),
     ([0x57#8], .ld_D_A),
     ([0x58#8], .ld_E_B),
     ([0x59#8], .ld_E_C),
     ([0x5A#8], .ld_E_D),
     ([0x5B#8], .ld_E_E),
     ([0x5C#8], .ld_E_H),
     ([0x5D#8], .ld_E_L),
     ([0x5E#8], .ld_E_atHL),
     ([0x5F#8], .ld_E_A)] = true := by decide

/-- Row 0x6_ of the first table (30_encoding.md R106), operand bytes 0x85, 0x34 0x92. -/
theorem test_decode_6x : decodesAll
    [([0x60#8], .ld_H_B),
     ([0x61#8], .ld_H_C),
     ([0x62#8], .ld_H_D),
     ([0x63#8], .ld_H_E),
     ([0x64#8], .ld_H_H),
     ([0x65#8], .ld_H_L),
     ([0x66#8], .ld_H_atHL),
     ([0x67#8], .ld_H_A),
     ([0x68#8], .ld_L_B),
     ([0x69#8], .ld_L_C),
     ([0x6A#8], .ld_L_D),
     ([0x6B#8], .ld_L_E),
     ([0x6C#8], .ld_L_H),
     ([0x6D#8], .ld_L_L),
     ([0x6E#8], .ld_L_atHL),
     ([0x6F#8], .ld_L_A)] = true := by decide

/-- Row 0x7_ of the first table (30_encoding.md R106), operand bytes 0x85, 0x34 0x92. -/
theorem test_decode_7x : decodesAll
    [([0x70#8], .ld_atHL_B),
     ([0x71#8], .ld_atHL_C),
     ([0x72#8], .ld_atHL_D),
     ([0x73#8], .ld_atHL_E),
     ([0x74#8], .ld_atHL_H),
     ([0x75#8], .ld_atHL_L),
     ([0x76#8], .halt),
     ([0x77#8], .ld_atHL_A),
     ([0x78#8], .ld_A_B),
     ([0x79#8], .ld_A_C),
     ([0x7A#8], .ld_A_D),
     ([0x7B#8], .ld_A_E),
     ([0x7C#8], .ld_A_H),
     ([0x7D#8], .ld_A_L),
     ([0x7E#8], .ld_A_atHL),
     ([0x7F#8], .ld_A_A)] = true := by decide

/-- Row 0x8_ of the first table (30_encoding.md R106), operand bytes 0x85, 0x34 0x92. -/
theorem test_decode_8x : decodesAll
    [([0x80#8], .add_A_B),
     ([0x81#8], .add_A_C),
     ([0x82#8], .add_A_D),
     ([0x83#8], .add_A_E),
     ([0x84#8], .add_A_H),
     ([0x85#8], .add_A_L),
     ([0x86#8], .add_A_atHL),
     ([0x87#8], .add_A_A),
     ([0x88#8], .adc_A_B),
     ([0x89#8], .adc_A_C),
     ([0x8A#8], .adc_A_D),
     ([0x8B#8], .adc_A_E),
     ([0x8C#8], .adc_A_H),
     ([0x8D#8], .adc_A_L),
     ([0x8E#8], .adc_A_atHL),
     ([0x8F#8], .adc_A_A)] = true := by decide

/-- Row 0x9_ of the first table (30_encoding.md R106), operand bytes 0x85, 0x34 0x92. -/
theorem test_decode_9x : decodesAll
    [([0x90#8], .sub_B),
     ([0x91#8], .sub_C),
     ([0x92#8], .sub_D),
     ([0x93#8], .sub_E),
     ([0x94#8], .sub_H),
     ([0x95#8], .sub_L),
     ([0x96#8], .sub_atHL),
     ([0x97#8], .sub_A),
     ([0x98#8], .sbc_A_B),
     ([0x99#8], .sbc_A_C),
     ([0x9A#8], .sbc_A_D),
     ([0x9B#8], .sbc_A_E),
     ([0x9C#8], .sbc_A_H),
     ([0x9D#8], .sbc_A_L),
     ([0x9E#8], .sbc_A_atHL),
     ([0x9F#8], .sbc_A_A)] = true := by decide

/-- Row 0xA_ of the first table (30_encoding.md R106), operand bytes 0x85, 0x34 0x92. -/
theorem test_decode_Ax : decodesAll
    [([0xA0#8], .and_B),
     ([0xA1#8], .and_C),
     ([0xA2#8], .and_D),
     ([0xA3#8], .and_E),
     ([0xA4#8], .and_H),
     ([0xA5#8], .and_L),
     ([0xA6#8], .and_atHL),
     ([0xA7#8], .and_A),
     ([0xA8#8], .xor_B),
     ([0xA9#8], .xor_C),
     ([0xAA#8], .xor_D),
     ([0xAB#8], .xor_E),
     ([0xAC#8], .xor_H),
     ([0xAD#8], .xor_L),
     ([0xAE#8], .xor_atHL),
     ([0xAF#8], .xor_A)] = true := by decide

/-- Row 0xB_ of the first table (30_encoding.md R106), operand bytes 0x85, 0x34 0x92. -/
theorem test_decode_Bx : decodesAll
    [([0xB0#8], .or_B),
     ([0xB1#8], .or_C),
     ([0xB2#8], .or_D),
     ([0xB3#8], .or_E),
     ([0xB4#8], .or_H),
     ([0xB5#8], .or_L),
     ([0xB6#8], .or_atHL),
     ([0xB7#8], .or_A),
     ([0xB8#8], .cp_B),
     ([0xB9#8], .cp_C),
     ([0xBA#8], .cp_D),
     ([0xBB#8], .cp_E),
     ([0xBC#8], .cp_H),
     ([0xBD#8], .cp_L),
     ([0xBE#8], .cp_atHL),
     ([0xBF#8], .cp_A)] = true := by decide

/-- Row 0xC_ of the first table (30_encoding.md R106), operand bytes 0x85, 0x34 0x92. -/
theorem test_decode_Cx : decodesAll
    [([0xC0#8], .ret_NZ),
     ([0xC1#8], .pop_BC),
     ([0xC2#8, 0x34#8, 0x92#8], .jp_NZ_nn 0x9234#16),
     ([0xC3#8, 0x34#8, 0x92#8], .jp_nn 0x9234#16),
     ([0xC4#8, 0x34#8, 0x92#8], .call_NZ_nn 0x9234#16),
     ([0xC5#8], .push_BC),
     ([0xC6#8, 0x85#8], .add_A_n 0x85#8),
     ([0xC7#8], .rst_00),
     ([0xC8#8], .ret_Z),
     ([0xC9#8], .ret),
     ([0xCA#8, 0x34#8, 0x92#8], .jp_Z_nn 0x9234#16),
     ([0xCC#8, 0x34#8, 0x92#8], .call_Z_nn 0x9234#16),
     ([0xCD#8, 0x34#8, 0x92#8], .call_nn 0x9234#16),
     ([0xCE#8, 0x85#8], .adc_A_n 0x85#8),
     ([0xCF#8], .rst_08)] = true := by decide

/-- Row 0xD_ of the first table (30_encoding.md R106), operand bytes 0x85, 0x34 0x92. -/
theorem test_decode_Dx : decodesAll
    [([0xD0#8], .ret_NC),
     ([0xD1#8], .pop_DE),
     ([0xD2#8, 0x34#8, 0x92#8], .jp_NC_nn 0x9234#16),
     ([0xD3#8], .illegal 0xD3#8),
     ([0xD4#8, 0x34#8, 0x92#8], .call_NC_nn 0x9234#16),
     ([0xD5#8], .push_DE),
     ([0xD6#8, 0x85#8], .sub_n 0x85#8),
     ([0xD7#8], .rst_10),
     ([0xD8#8], .ret_C),
     ([0xD9#8], .reti),
     ([0xDA#8, 0x34#8, 0x92#8], .jp_C_nn 0x9234#16),
     ([0xDB#8], .illegal 0xDB#8),
     ([0xDC#8, 0x34#8, 0x92#8], .call_C_nn 0x9234#16),
     ([0xDD#8], .illegal 0xDD#8),
     ([0xDE#8, 0x85#8], .sbc_A_n 0x85#8),
     ([0xDF#8], .rst_18)] = true := by decide

/-- Row 0xE_ of the first table (30_encoding.md R106), operand bytes 0x85, 0x34 0x92. -/
theorem test_decode_Ex : decodesAll
    [([0xE0#8, 0x85#8], .ldh_atN_A 0x85#8),
     ([0xE1#8], .pop_HL),
     ([0xE2#8], .ldh_atC_A),
     ([0xE3#8], .illegal 0xE3#8),
     ([0xE4#8], .illegal 0xE4#8),
     ([0xE5#8], .push_HL),
     ([0xE6#8, 0x85#8], .and_n 0x85#8),
     ([0xE7#8], .rst_20),
     ([0xE8#8, 0x85#8], .add_SP_e 0x85#8),
     ([0xE9#8], .jp_HL),
     ([0xEA#8, 0x34#8, 0x92#8], .ld_atNN_A 0x9234#16),
     ([0xEB#8], .illegal 0xEB#8),
     ([0xEC#8], .illegal 0xEC#8),
     ([0xED#8], .illegal 0xED#8),
     ([0xEE#8, 0x85#8], .xor_n 0x85#8),
     ([0xEF#8], .rst_28)] = true := by decide

/-- Row 0xF_ of the first table (30_encoding.md R106), operand bytes 0x85, 0x34 0x92. -/
theorem test_decode_Fx : decodesAll
    [([0xF0#8, 0x85#8], .ldh_A_atN 0x85#8),
     ([0xF1#8], .pop_AF),
     ([0xF2#8], .ldh_A_atC),
     ([0xF3#8], .di),
     ([0xF4#8], .illegal 0xF4#8),
     ([0xF5#8], .push_AF),
     ([0xF6#8, 0x85#8], .or_n 0x85#8),
     ([0xF7#8], .rst_30),
     ([0xF8#8, 0x85#8], .ld_HL_SPe 0x85#8),
     ([0xF9#8], .ld_SP_HL),
     ([0xFA#8, 0x34#8, 0x92#8], .ld_A_atNN 0x9234#16),
     ([0xFB#8], .ei),
     ([0xFC#8], .illegal 0xFC#8),
     ([0xFD#8], .illegal 0xFD#8),
     ([0xFE#8, 0x85#8], .cp_n 0x85#8),
     ([0xFF#8], .rst_38)] = true := by decide

/-- Row 0x0_ of the second table (30_encoding.md R109). -/
theorem test_decode_CB_0x : decodesAll
    [([0xCB#8, 0x00#8], .rlc_B),
     ([0xCB#8, 0x01#8], .rlc_C),
     ([0xCB#8, 0x02#8], .rlc_D),
     ([0xCB#8, 0x03#8], .rlc_E),
     ([0xCB#8, 0x04#8], .rlc_H),
     ([0xCB#8, 0x05#8], .rlc_L),
     ([0xCB#8, 0x06#8], .rlc_atHL),
     ([0xCB#8, 0x07#8], .rlc_A),
     ([0xCB#8, 0x08#8], .rrc_B),
     ([0xCB#8, 0x09#8], .rrc_C),
     ([0xCB#8, 0x0A#8], .rrc_D),
     ([0xCB#8, 0x0B#8], .rrc_E),
     ([0xCB#8, 0x0C#8], .rrc_H),
     ([0xCB#8, 0x0D#8], .rrc_L),
     ([0xCB#8, 0x0E#8], .rrc_atHL),
     ([0xCB#8, 0x0F#8], .rrc_A)] = true := by decide

/-- Row 0x1_ of the second table (30_encoding.md R109). -/
theorem test_decode_CB_1x : decodesAll
    [([0xCB#8, 0x10#8], .rl_B),
     ([0xCB#8, 0x11#8], .rl_C),
     ([0xCB#8, 0x12#8], .rl_D),
     ([0xCB#8, 0x13#8], .rl_E),
     ([0xCB#8, 0x14#8], .rl_H),
     ([0xCB#8, 0x15#8], .rl_L),
     ([0xCB#8, 0x16#8], .rl_atHL),
     ([0xCB#8, 0x17#8], .rl_A),
     ([0xCB#8, 0x18#8], .rr_B),
     ([0xCB#8, 0x19#8], .rr_C),
     ([0xCB#8, 0x1A#8], .rr_D),
     ([0xCB#8, 0x1B#8], .rr_E),
     ([0xCB#8, 0x1C#8], .rr_H),
     ([0xCB#8, 0x1D#8], .rr_L),
     ([0xCB#8, 0x1E#8], .rr_atHL),
     ([0xCB#8, 0x1F#8], .rr_A)] = true := by decide

/-- Row 0x2_ of the second table (30_encoding.md R109). -/
theorem test_decode_CB_2x : decodesAll
    [([0xCB#8, 0x20#8], .sla_B),
     ([0xCB#8, 0x21#8], .sla_C),
     ([0xCB#8, 0x22#8], .sla_D),
     ([0xCB#8, 0x23#8], .sla_E),
     ([0xCB#8, 0x24#8], .sla_H),
     ([0xCB#8, 0x25#8], .sla_L),
     ([0xCB#8, 0x26#8], .sla_atHL),
     ([0xCB#8, 0x27#8], .sla_A),
     ([0xCB#8, 0x28#8], .sra_B),
     ([0xCB#8, 0x29#8], .sra_C),
     ([0xCB#8, 0x2A#8], .sra_D),
     ([0xCB#8, 0x2B#8], .sra_E),
     ([0xCB#8, 0x2C#8], .sra_H),
     ([0xCB#8, 0x2D#8], .sra_L),
     ([0xCB#8, 0x2E#8], .sra_atHL),
     ([0xCB#8, 0x2F#8], .sra_A)] = true := by decide

/-- Row 0x3_ of the second table (30_encoding.md R109). -/
theorem test_decode_CB_3x : decodesAll
    [([0xCB#8, 0x30#8], .swap_B),
     ([0xCB#8, 0x31#8], .swap_C),
     ([0xCB#8, 0x32#8], .swap_D),
     ([0xCB#8, 0x33#8], .swap_E),
     ([0xCB#8, 0x34#8], .swap_H),
     ([0xCB#8, 0x35#8], .swap_L),
     ([0xCB#8, 0x36#8], .swap_atHL),
     ([0xCB#8, 0x37#8], .swap_A),
     ([0xCB#8, 0x38#8], .srl_B),
     ([0xCB#8, 0x39#8], .srl_C),
     ([0xCB#8, 0x3A#8], .srl_D),
     ([0xCB#8, 0x3B#8], .srl_E),
     ([0xCB#8, 0x3C#8], .srl_H),
     ([0xCB#8, 0x3D#8], .srl_L),
     ([0xCB#8, 0x3E#8], .srl_atHL),
     ([0xCB#8, 0x3F#8], .srl_A)] = true := by decide

/-- Row 0x4_ of the second table (30_encoding.md R109). -/
theorem test_decode_CB_4x : decodesAll
    [([0xCB#8, 0x40#8], .bit_0_B),
     ([0xCB#8, 0x41#8], .bit_0_C),
     ([0xCB#8, 0x42#8], .bit_0_D),
     ([0xCB#8, 0x43#8], .bit_0_E),
     ([0xCB#8, 0x44#8], .bit_0_H),
     ([0xCB#8, 0x45#8], .bit_0_L),
     ([0xCB#8, 0x46#8], .bit_0_atHL),
     ([0xCB#8, 0x47#8], .bit_0_A),
     ([0xCB#8, 0x48#8], .bit_1_B),
     ([0xCB#8, 0x49#8], .bit_1_C),
     ([0xCB#8, 0x4A#8], .bit_1_D),
     ([0xCB#8, 0x4B#8], .bit_1_E),
     ([0xCB#8, 0x4C#8], .bit_1_H),
     ([0xCB#8, 0x4D#8], .bit_1_L),
     ([0xCB#8, 0x4E#8], .bit_1_atHL),
     ([0xCB#8, 0x4F#8], .bit_1_A)] = true := by decide

/-- Row 0x5_ of the second table (30_encoding.md R109). -/
theorem test_decode_CB_5x : decodesAll
    [([0xCB#8, 0x50#8], .bit_2_B),
     ([0xCB#8, 0x51#8], .bit_2_C),
     ([0xCB#8, 0x52#8], .bit_2_D),
     ([0xCB#8, 0x53#8], .bit_2_E),
     ([0xCB#8, 0x54#8], .bit_2_H),
     ([0xCB#8, 0x55#8], .bit_2_L),
     ([0xCB#8, 0x56#8], .bit_2_atHL),
     ([0xCB#8, 0x57#8], .bit_2_A),
     ([0xCB#8, 0x58#8], .bit_3_B),
     ([0xCB#8, 0x59#8], .bit_3_C),
     ([0xCB#8, 0x5A#8], .bit_3_D),
     ([0xCB#8, 0x5B#8], .bit_3_E),
     ([0xCB#8, 0x5C#8], .bit_3_H),
     ([0xCB#8, 0x5D#8], .bit_3_L),
     ([0xCB#8, 0x5E#8], .bit_3_atHL),
     ([0xCB#8, 0x5F#8], .bit_3_A)] = true := by decide

/-- Row 0x6_ of the second table (30_encoding.md R109). -/
theorem test_decode_CB_6x : decodesAll
    [([0xCB#8, 0x60#8], .bit_4_B),
     ([0xCB#8, 0x61#8], .bit_4_C),
     ([0xCB#8, 0x62#8], .bit_4_D),
     ([0xCB#8, 0x63#8], .bit_4_E),
     ([0xCB#8, 0x64#8], .bit_4_H),
     ([0xCB#8, 0x65#8], .bit_4_L),
     ([0xCB#8, 0x66#8], .bit_4_atHL),
     ([0xCB#8, 0x67#8], .bit_4_A),
     ([0xCB#8, 0x68#8], .bit_5_B),
     ([0xCB#8, 0x69#8], .bit_5_C),
     ([0xCB#8, 0x6A#8], .bit_5_D),
     ([0xCB#8, 0x6B#8], .bit_5_E),
     ([0xCB#8, 0x6C#8], .bit_5_H),
     ([0xCB#8, 0x6D#8], .bit_5_L),
     ([0xCB#8, 0x6E#8], .bit_5_atHL),
     ([0xCB#8, 0x6F#8], .bit_5_A)] = true := by decide

/-- Row 0x7_ of the second table (30_encoding.md R109). -/
theorem test_decode_CB_7x : decodesAll
    [([0xCB#8, 0x70#8], .bit_6_B),
     ([0xCB#8, 0x71#8], .bit_6_C),
     ([0xCB#8, 0x72#8], .bit_6_D),
     ([0xCB#8, 0x73#8], .bit_6_E),
     ([0xCB#8, 0x74#8], .bit_6_H),
     ([0xCB#8, 0x75#8], .bit_6_L),
     ([0xCB#8, 0x76#8], .bit_6_atHL),
     ([0xCB#8, 0x77#8], .bit_6_A),
     ([0xCB#8, 0x78#8], .bit_7_B),
     ([0xCB#8, 0x79#8], .bit_7_C),
     ([0xCB#8, 0x7A#8], .bit_7_D),
     ([0xCB#8, 0x7B#8], .bit_7_E),
     ([0xCB#8, 0x7C#8], .bit_7_H),
     ([0xCB#8, 0x7D#8], .bit_7_L),
     ([0xCB#8, 0x7E#8], .bit_7_atHL),
     ([0xCB#8, 0x7F#8], .bit_7_A)] = true := by decide

/-- Row 0x8_ of the second table (30_encoding.md R109). -/
theorem test_decode_CB_8x : decodesAll
    [([0xCB#8, 0x80#8], .res_0_B),
     ([0xCB#8, 0x81#8], .res_0_C),
     ([0xCB#8, 0x82#8], .res_0_D),
     ([0xCB#8, 0x83#8], .res_0_E),
     ([0xCB#8, 0x84#8], .res_0_H),
     ([0xCB#8, 0x85#8], .res_0_L),
     ([0xCB#8, 0x86#8], .res_0_atHL),
     ([0xCB#8, 0x87#8], .res_0_A),
     ([0xCB#8, 0x88#8], .res_1_B),
     ([0xCB#8, 0x89#8], .res_1_C),
     ([0xCB#8, 0x8A#8], .res_1_D),
     ([0xCB#8, 0x8B#8], .res_1_E),
     ([0xCB#8, 0x8C#8], .res_1_H),
     ([0xCB#8, 0x8D#8], .res_1_L),
     ([0xCB#8, 0x8E#8], .res_1_atHL),
     ([0xCB#8, 0x8F#8], .res_1_A)] = true := by decide

/-- Row 0x9_ of the second table (30_encoding.md R109). -/
theorem test_decode_CB_9x : decodesAll
    [([0xCB#8, 0x90#8], .res_2_B),
     ([0xCB#8, 0x91#8], .res_2_C),
     ([0xCB#8, 0x92#8], .res_2_D),
     ([0xCB#8, 0x93#8], .res_2_E),
     ([0xCB#8, 0x94#8], .res_2_H),
     ([0xCB#8, 0x95#8], .res_2_L),
     ([0xCB#8, 0x96#8], .res_2_atHL),
     ([0xCB#8, 0x97#8], .res_2_A),
     ([0xCB#8, 0x98#8], .res_3_B),
     ([0xCB#8, 0x99#8], .res_3_C),
     ([0xCB#8, 0x9A#8], .res_3_D),
     ([0xCB#8, 0x9B#8], .res_3_E),
     ([0xCB#8, 0x9C#8], .res_3_H),
     ([0xCB#8, 0x9D#8], .res_3_L),
     ([0xCB#8, 0x9E#8], .res_3_atHL),
     ([0xCB#8, 0x9F#8], .res_3_A)] = true := by decide

/-- Row 0xA_ of the second table (30_encoding.md R109). -/
theorem test_decode_CB_Ax : decodesAll
    [([0xCB#8, 0xA0#8], .res_4_B),
     ([0xCB#8, 0xA1#8], .res_4_C),
     ([0xCB#8, 0xA2#8], .res_4_D),
     ([0xCB#8, 0xA3#8], .res_4_E),
     ([0xCB#8, 0xA4#8], .res_4_H),
     ([0xCB#8, 0xA5#8], .res_4_L),
     ([0xCB#8, 0xA6#8], .res_4_atHL),
     ([0xCB#8, 0xA7#8], .res_4_A),
     ([0xCB#8, 0xA8#8], .res_5_B),
     ([0xCB#8, 0xA9#8], .res_5_C),
     ([0xCB#8, 0xAA#8], .res_5_D),
     ([0xCB#8, 0xAB#8], .res_5_E),
     ([0xCB#8, 0xAC#8], .res_5_H),
     ([0xCB#8, 0xAD#8], .res_5_L),
     ([0xCB#8, 0xAE#8], .res_5_atHL),
     ([0xCB#8, 0xAF#8], .res_5_A)] = true := by decide

/-- Row 0xB_ of the second table (30_encoding.md R109). -/
theorem test_decode_CB_Bx : decodesAll
    [([0xCB#8, 0xB0#8], .res_6_B),
     ([0xCB#8, 0xB1#8], .res_6_C),
     ([0xCB#8, 0xB2#8], .res_6_D),
     ([0xCB#8, 0xB3#8], .res_6_E),
     ([0xCB#8, 0xB4#8], .res_6_H),
     ([0xCB#8, 0xB5#8], .res_6_L),
     ([0xCB#8, 0xB6#8], .res_6_atHL),
     ([0xCB#8, 0xB7#8], .res_6_A),
     ([0xCB#8, 0xB8#8], .res_7_B),
     ([0xCB#8, 0xB9#8], .res_7_C),
     ([0xCB#8, 0xBA#8], .res_7_D),
     ([0xCB#8, 0xBB#8], .res_7_E),
     ([0xCB#8, 0xBC#8], .res_7_H),
     ([0xCB#8, 0xBD#8], .res_7_L),
     ([0xCB#8, 0xBE#8], .res_7_atHL),
     ([0xCB#8, 0xBF#8], .res_7_A)] = true := by decide

/-- Row 0xC_ of the second table (30_encoding.md R109). -/
theorem test_decode_CB_Cx : decodesAll
    [([0xCB#8, 0xC0#8], .set_0_B),
     ([0xCB#8, 0xC1#8], .set_0_C),
     ([0xCB#8, 0xC2#8], .set_0_D),
     ([0xCB#8, 0xC3#8], .set_0_E),
     ([0xCB#8, 0xC4#8], .set_0_H),
     ([0xCB#8, 0xC5#8], .set_0_L),
     ([0xCB#8, 0xC6#8], .set_0_atHL),
     ([0xCB#8, 0xC7#8], .set_0_A),
     ([0xCB#8, 0xC8#8], .set_1_B),
     ([0xCB#8, 0xC9#8], .set_1_C),
     ([0xCB#8, 0xCA#8], .set_1_D),
     ([0xCB#8, 0xCB#8], .set_1_E),
     ([0xCB#8, 0xCC#8], .set_1_H),
     ([0xCB#8, 0xCD#8], .set_1_L),
     ([0xCB#8, 0xCE#8], .set_1_atHL),
     ([0xCB#8, 0xCF#8], .set_1_A)] = true := by decide

/-- Row 0xD_ of the second table (30_encoding.md R109). -/
theorem test_decode_CB_Dx : decodesAll
    [([0xCB#8, 0xD0#8], .set_2_B),
     ([0xCB#8, 0xD1#8], .set_2_C),
     ([0xCB#8, 0xD2#8], .set_2_D),
     ([0xCB#8, 0xD3#8], .set_2_E),
     ([0xCB#8, 0xD4#8], .set_2_H),
     ([0xCB#8, 0xD5#8], .set_2_L),
     ([0xCB#8, 0xD6#8], .set_2_atHL),
     ([0xCB#8, 0xD7#8], .set_2_A),
     ([0xCB#8, 0xD8#8], .set_3_B),
     ([0xCB#8, 0xD9#8], .set_3_C),
     ([0xCB#8, 0xDA#8], .set_3_D),
     ([0xCB#8, 0xDB#8], .set_3_E),
     ([0xCB#8, 0xDC#8], .set_3_H),
     ([0xCB#8, 0xDD#8], .set_3_L),
     ([0xCB#8, 0xDE#8], .set_3_atHL),
     ([0xCB#8, 0xDF#8], .set_3_A)] = true := by decide

/-- Row 0xE_ of the second table (30_encoding.md R109). -/
theorem test_decode_CB_Ex : decodesAll
    [([0xCB#8, 0xE0#8], .set_4_B),
     ([0xCB#8, 0xE1#8], .set_4_C),
     ([0xCB#8, 0xE2#8], .set_4_D),
     ([0xCB#8, 0xE3#8], .set_4_E),
     ([0xCB#8, 0xE4#8], .set_4_H),
     ([0xCB#8, 0xE5#8], .set_4_L),
     ([0xCB#8, 0xE6#8], .set_4_atHL),
     ([0xCB#8, 0xE7#8], .set_4_A),
     ([0xCB#8, 0xE8#8], .set_5_B),
     ([0xCB#8, 0xE9#8], .set_5_C),
     ([0xCB#8, 0xEA#8], .set_5_D),
     ([0xCB#8, 0xEB#8], .set_5_E),
     ([0xCB#8, 0xEC#8], .set_5_H),
     ([0xCB#8, 0xED#8], .set_5_L),
     ([0xCB#8, 0xEE#8], .set_5_atHL),
     ([0xCB#8, 0xEF#8], .set_5_A)] = true := by decide

/-- Row 0xF_ of the second table (30_encoding.md R109). -/
theorem test_decode_CB_Fx : decodesAll
    [([0xCB#8, 0xF0#8], .set_6_B),
     ([0xCB#8, 0xF1#8], .set_6_C),
     ([0xCB#8, 0xF2#8], .set_6_D),
     ([0xCB#8, 0xF3#8], .set_6_E),
     ([0xCB#8, 0xF4#8], .set_6_H),
     ([0xCB#8, 0xF5#8], .set_6_L),
     ([0xCB#8, 0xF6#8], .set_6_atHL),
     ([0xCB#8, 0xF7#8], .set_6_A),
     ([0xCB#8, 0xF8#8], .set_7_B),
     ([0xCB#8, 0xF9#8], .set_7_C),
     ([0xCB#8, 0xFA#8], .set_7_D),
     ([0xCB#8, 0xFB#8], .set_7_E),
     ([0xCB#8, 0xFC#8], .set_7_H),
     ([0xCB#8, 0xFD#8], .set_7_L),
     ([0xCB#8, 0xFE#8], .set_7_atHL),
     ([0xCB#8, 0xFF#8], .set_7_A)] = true := by decide

/-! ## Loads and stack (95_test_vectors.md 2.1) -/

theorem test_ld_B_C :
    seen (step <| (unit [0x41#8]).mapCpu fun u => { u with c := 0x5A#8, flags := .ofByte 0xF0#8 }) (fun t => (t.cpu.b, t.cpu.f, t.cpu.pc, t.cycles))
      = some (0x5A#8, 0xF0#8, 0xC001#16, 4) := by decide

theorem test_ld_D_n :
    seen (step <| unit [0x16#8, 0x7F#8]) (fun t => (t.cpu.d, t.cpu.pc, t.cycles))
      = some (0x7F#8, 0xC002#16, 8) := by decide

theorem test_ld_E_atHL :
    seen (step <| (withWram (unit [0x5E#8]) [(0x234, 0x99#8)]).mapCpu fun u => { u with h := 0xC2#8, l := 0x34#8 }) (fun t => (t.cpu.e, t.cycles))
      = some (0x99#8, 8) := by decide

theorem test_ld_atHL_A :
    seen (step <| (unit [0x77#8]).mapCpu fun u => { u with a := 0x3C#8, h := 0xC2#8, l := 0x00#8 }) (fun t => (t.read 0xC200#16, t.cycles))
      = some (0x3C#8, 8) := by decide

set_option maxRecDepth 4000 in
theorem test_ld_atHL_n :
    seen (step <| (unit [0x36#8, 0xA5#8]).mapCpu fun u => { u with h := 0xC2#8, l := 0x00#8 }) (fun t => (t.read 0xC200#16, t.cpu.pc, t.cycles))
      = some (0xA5#8, 0xC002#16, 12) := by decide

theorem test_ld_A_atBC :
    seen (step <| (withWram (unit [0x0A#8]) [(0x234, 0x99#8)]).mapCpu fun u => { u with b := 0xC2#8, c := 0x34#8 }) (fun t => (t.cpu.a, t.cycles))
      = some (0x99#8, 8) := by decide

theorem test_ld_atDE_A :
    seen (step <| (unit [0x12#8]).mapCpu fun u => { u with a := 0x77#8, d := 0xC3#8, e := 0x00#8 }) (fun t => (t.read 0xC300#16, t.cycles))
      = some (0x77#8, 8) := by decide

set_option maxRecDepth 4000 in
theorem test_ld_A_atNN :
    seen (step <| withWram (unit [0xFA#8, 0x34#8, 0xC2#8]) [(0x234, 0x99#8)]) (fun t => (t.cpu.a, t.cpu.pc, t.cycles))
      = some (0x99#8, 0xC003#16, 16) := by decide

set_option maxRecDepth 4000 in
theorem test_ld_atNN_A :
    seen (step <| (unit [0xEA#8, 0x00#8, 0xC4#8]).mapCpu fun u => { u with a := 0x42#8 }) (fun t => (t.read 0xC400#16, t.cycles))
      = some (0x42#8, 16) := by decide

set_option maxRecDepth 4000 in
theorem test_ldh_atN_A :
    seen (step <| (unit [0xE0#8, 0x91#8]).mapCpu fun u => { u with a := 0x21#8 }) (fun t => (t.read 0xFF91#16, t.cycles))
      = some (0x21#8, 12) := by decide

theorem test_ldh_atC_A :
    seen (step <| (unit [0xE2#8]).mapCpu fun u => { u with a := 0x31#8, c := 0x92#8 }) (fun t => (t.read 0xFF92#16, t.cycles))
      = some (0x31#8, 8) := by decide

theorem test_ld_atHLi_A :
    seen (step <| (unit [0x22#8]).mapCpu fun u => { u with a := 0x11#8, h := 0xC2#8, l := 0xFF#8 }) (fun t => (t.read 0xC2FF#16, t.cpu.hl, t.cycles))
      = some (0x11#8, 0xC300#16, 8) := by decide

theorem test_ld_A_atHLd :
    seen (step <| (withWram (unit [0x3A#8]) [(0x234, 0x99#8)]).mapCpu fun u => { u with h := 0xC2#8, l := 0x34#8 }) (fun t => (t.cpu.a, t.cpu.hl, t.cycles))
      = some (0x99#8, 0xC233#16, 8) := by decide

set_option maxRecDepth 4000 in
theorem test_ld_BC_nn :
    seen (step <| unit [0x01#8, 0x34#8, 0x12#8]) (fun t => (t.cpu.b, t.cpu.c, t.cycles))
      = some (0x12#8, 0x34#8, 12) := by decide

theorem test_ld_SP_HL :
    seen (step <| (unit [0xF9#8]).mapCpu fun u => { u with h := 0xD1#8, l := 0x23#8 }) (fun t => (t.cpu.sp, t.cycles))
      = some (0xD123#16, 8) := by decide

set_option maxRecDepth 4000 in
theorem test_ld_atNN_SP :
    seen (step <| (unit [0x08#8, 0x00#8, 0xC1#8]).mapCpu fun u => { u with sp := 0xD123#16 }) (fun t => (t.read 0xC100#16, t.read 0xC101#16, t.cycles))
      = some (0x23#8, 0xD1#8, 20) := by decide

set_option maxRecDepth 4000 in
theorem test_ld_atNN_SP_top :
    seen (step <| (unit [0x08#8, 0xFF#8, 0xFF#8]).mapCpu fun u => { u with sp := 0xBEEF#16 }) (fun t => (t.intr.enableMask, t.cycles))
      = some (0xEF#8, 20) := by decide

set_option maxRecDepth 4000 in
theorem test_push_BC :
    seen (step <| (unit [0xC5#8]).mapCpu fun u => { u with b := 0x12#8, c := 0x34#8, sp := 0xFFFE#16 }) (fun t => (t.read 0xFFFD#16, t.read 0xFFFC#16, t.cpu.sp, t.cycles))
      = some (0x12#8, 0x34#8, 0xFFFC#16, 16) := by decide

set_option maxRecDepth 4000 in
theorem test_push_AF :
    seen (step <| (unit [0xF5#8]).mapCpu fun u => { u with a := 0x12#8, flags := .ofByte 0xB0#8 }) (fun t => (t.read 0xDFEF#16, t.read 0xDFEE#16, t.cpu.sp, t.cycles))
      = some (0x12#8, 0xB0#8, 0xDFEE#16, 16) := by decide

set_option maxRecDepth 4000 in
theorem test_push_DE_wraps :
    seen (step <| (unit [0xD5#8]).mapCpu fun u => { u with d := 0xAA#8, e := 0x0B#8, sp := 0x0001#16 }) (fun t => (t.intr.enableMask, t.cpu.sp, t.cycles))
      = some (0x0B#8, 0xFFFF#16, 16) := by decide

set_option maxRecDepth 4000 in
theorem test_pop_BC :
    seen (step <| withWram (unit [0xC1#8]) [(0x1ff0, 0x5F#8), (0x1ff1, 0x3C#8)]) (fun t => (t.cpu.b, t.cpu.c, t.cpu.sp, t.cycles))
      = some (0x3C#8, 0x5F#8, 0xDFF2#16, 12) := by decide

set_option maxRecDepth 4000 in
theorem test_pop_AF :
    seen (step <| withWram (unit [0xF1#8]) [(0x1ff0, 0xFF#8), (0x1ff1, 0x12#8)]) (fun t => (t.cpu.a, t.cpu.f, t.cycles))
      = some (0x12#8, 0xF0#8, 12) := by decide

set_option maxRecDepth 4000 in
theorem test_ld_HL_SPe :
    seen (step <| (unit [0xF8#8, 0x01#8]).mapCpu fun u => { u with sp := 0x00FF#16 }) (fun t => (t.cpu.hl, t.cpu.f, t.cycles))
      = some (0x0100#16, 0x30#8, 12) := by decide

set_option maxRecDepth 4000 in
theorem test_ld_HL_SPe_negative :
    seen (step <| (unit [0xF8#8, 0xFF#8]).mapCpu fun u => { u with sp := 0x0000#16 }) (fun t => (t.cpu.hl, t.cpu.f, t.cycles))
      = some (0xFFFF#16, 0x00#8, 12) := by decide

/-! ## Eight-bit arithmetic and logic (95_test_vectors.md 2.2) -/

theorem test_add_A_n :
    seen (step <| (unit [0xC6#8, 0xC6#8]).mapCpu fun u => { u with a := 0x3A#8, flags := .ofByte 0x00#8 }) (fun t => (t.cpu.a, t.cpu.f, t.cycles))
      = some (0x00#8, 0xB0#8, 8) := by decide

theorem test_add_A_n_half :
    seen (step <| (unit [0xC6#8, 0x01#8]).mapCpu fun u => { u with a := 0x0F#8, flags := .ofByte 0x00#8 }) (fun t => (t.cpu.a, t.cpu.f, t.cycles))
      = some (0x10#8, 0x20#8, 8) := by decide

theorem test_adc_A_n :
    seen (step <| (unit [0xCE#8, 0x3B#8]).mapCpu fun u => { u with a := 0xE1#8, flags := .ofByte 0x10#8 }) (fun t => (t.cpu.a, t.cpu.f, t.cycles))
      = some (0x1D#8, 0x10#8, 8) := by decide

theorem test_adc_A_n_carry_in :
    seen (step <| (unit [0xCE#8, 0xFF#8]).mapCpu fun u => { u with a := 0x00#8, flags := .ofByte 0x10#8 }) (fun t => (t.cpu.a, t.cpu.f, t.cycles))
      = some (0x00#8, 0xB0#8, 8) := by decide

theorem test_sub_n :
    seen (step <| (unit [0xD6#8, 0x40#8]).mapCpu fun u => { u with a := 0x3E#8, flags := .ofByte 0x00#8 }) (fun t => (t.cpu.a, t.cpu.f, t.cycles))
      = some (0xFE#8, 0x50#8, 8) := by decide

theorem test_sub_n_borrow :
    seen (step <| (unit [0xD6#8, 0x01#8]).mapCpu fun u => { u with a := 0x00#8, flags := .ofByte 0x00#8 }) (fun t => (t.cpu.a, t.cpu.f, t.cycles))
      = some (0xFF#8, 0x70#8, 8) := by decide

theorem test_sbc_A_n :
    seen (step <| (unit [0xDE#8, 0x0F#8]).mapCpu fun u => { u with a := 0x10#8, flags := .ofByte 0x10#8 }) (fun t => (t.cpu.a, t.cpu.f, t.cycles))
      = some (0x00#8, 0xE0#8, 8) := by decide

theorem test_sbc_A_n_borrow :
    seen (step <| (unit [0xDE#8, 0xFF#8]).mapCpu fun u => { u with a := 0x00#8, flags := .ofByte 0x10#8 }) (fun t => (t.cpu.a, t.cpu.f, t.cycles))
      = some (0x00#8, 0xF0#8, 8) := by decide

theorem test_and_n :
    seen (step <| (unit [0xE6#8, 0x3F#8]).mapCpu fun u => { u with a := 0x5A#8, flags := .ofByte 0x00#8 }) (fun t => (t.cpu.a, t.cpu.f, t.cycles))
      = some (0x1A#8, 0x20#8, 8) := by decide

theorem test_xor_n :
    seen (step <| (unit [0xEE#8, 0x0F#8]).mapCpu fun u => { u with a := 0xFF#8, flags := .ofByte 0x00#8 }) (fun t => (t.cpu.a, t.cpu.f, t.cycles))
      = some (0xF0#8, 0x00#8, 8) := by decide

theorem test_or_n :
    seen (step <| (unit [0xF6#8, 0x03#8]).mapCpu fun u => { u with a := 0x5A#8, flags := .ofByte 0x00#8 }) (fun t => (t.cpu.a, t.cpu.f, t.cycles))
      = some (0x5B#8, 0x00#8, 8) := by decide

theorem test_cp_n :
    seen (step <| (unit [0xFE#8, 0x40#8]).mapCpu fun u => { u with a := 0x3C#8, flags := .ofByte 0x00#8 }) (fun t => (t.cpu.a, t.cpu.f, t.cycles))
      = some (0x3C#8, 0x50#8, 8) := by decide

theorem test_sbc_A_A :
    seen (step <| (unit [0x9F#8]).mapCpu fun u => { u with a := 0x12#8, flags := .ofByte 0x10#8 }) (fun t => (t.cpu.a, t.cpu.f, t.cycles))
      = some (0xFF#8, 0x70#8, 4) := by decide

theorem test_xor_A :
    seen (step <| (unit [0xAF#8]).mapCpu fun u => { u with a := 0x12#8, flags := .ofByte 0x10#8 }) (fun t => (t.cpu.a, t.cpu.f, t.cycles))
      = some (0x00#8, 0x80#8, 4) := by decide

theorem test_cpl :
    seen (step <| (unit [0x2F#8]).mapCpu fun u => { u with a := 0x35#8, flags := .ofByte 0x00#8 }) (fun t => (t.cpu.a, t.cpu.f, t.cycles))
      = some (0xCA#8, 0x60#8, 4) := by decide

theorem test_scf :
    seen (step <| (unit [0x37#8]).mapCpu fun u => { u with flags := .ofByte 0xE0#8 }) (fun t => (t.cpu.f, t.cycles))
      = some (0x90#8, 4) := by decide

theorem test_ccf :
    seen (step <| (unit [0x3F#8]).mapCpu fun u => { u with flags := .ofByte 0xF0#8 }) (fun t => (t.cpu.f, t.cycles))
      = some (0x80#8, 4) := by decide

theorem test_daa_add :
    seen (step <| (unit [0x27#8]).mapCpu fun u => { u with a := 0x7D#8, flags := .ofByte 0x00#8 }) (fun t => (t.cpu.a, t.cpu.f, t.cycles))
      = some (0x83#8, 0x00#8, 4) := by decide

theorem test_daa_sub :
    seen (step <| (unit [0x27#8]).mapCpu fun u => { u with a := 0x00#8, flags := .ofByte 0x70#8 }) (fun t => (t.cpu.a, t.cpu.f, t.cycles))
      = some (0x9A#8, 0x50#8, 4) := by decide

theorem test_inc_B :
    seen (step <| (unit [0x04#8]).mapCpu fun u => { u with b := 0xFF#8, flags := .ofByte 0x10#8 }) (fun t => (t.cpu.b, t.cpu.f, t.cycles))
      = some (0x00#8, 0xB0#8, 4) := by decide

theorem test_dec_B :
    seen (step <| (unit [0x05#8]).mapCpu fun u => { u with b := 0x10#8 }) (fun t => (t.cpu.b, t.cpu.f, t.cycles))
      = some (0x0F#8, 0x60#8, 4) := by decide

set_option maxRecDepth 4000 in
theorem test_inc_atHL :
    seen (step <| (withWram (unit [0x34#8]) [(0x200, 0x50#8)]).mapCpu fun u => { u with h := 0xC2#8, l := 0x00#8 }) (fun t => (t.read 0xC200#16, t.cpu.f, t.cycles))
      = some (0x51#8, 0x00#8, 12) := by decide

set_option maxRecDepth 4000 in
theorem test_inc_atHL_unmapped :
    seen (step <| (unit [0x34#8]).mapCpu fun u => { u with h := 0xFE#8, l := 0xA0#8 }) (fun t => (t.read 0xFEA0#16, t.cpu.f, t.cycles))
      = some (0xFF#8, 0xA0#8, 12) := by decide

/-! ## Sixteen-bit arithmetic (95_test_vectors.md 2.3) -/

theorem test_add_HL_BC :
    seen (step <| (unit [0x09#8]).mapCpu fun u => { u with h := 0xFF#8, l := 0xFF#8, b := 0x00#8, c := 0x01#8, flags := .ofByte 0x80#8 }) (fun t => (t.cpu.hl, t.cpu.f, t.cycles))
      = some (0x0000#16, 0xB0#8, 8) := by decide

theorem test_inc_DE :
    seen (step <| (unit [0x13#8]).mapCpu fun u => { u with d := 0x23#8, e := 0x5F#8, flags := .ofByte 0xF0#8 }) (fun t => (t.cpu.de, t.cpu.f, t.cycles))
      = some (0x2360#16, 0xF0#8, 8) := by decide

theorem test_dec_BC :
    seen (step <| (unit [0x0B#8]).mapCpu fun u => { u with b := 0x01#8, c := 0x00#8, flags := .ofByte 0x50#8 }) (fun t => (t.cpu.bc, t.cpu.f, t.cycles))
      = some (0x00FF#16, 0x50#8, 8) := by decide

set_option maxRecDepth 4000 in
theorem test_add_SP_e :
    seen (step <| (unit [0xE8#8, 0x08#8]).mapCpu fun u => { u with sp := 0xFFF8#16 }) (fun t => (t.cpu.sp, t.cpu.f, t.cycles))
      = some (0x0000#16, 0x30#8, 16) := by decide

set_option maxRecDepth 4000 in
theorem test_add_SP_e_negative :
    seen (step <| (unit [0xE8#8, 0xFF#8]).mapCpu fun u => { u with sp := 0x0000#16, flags := .ofByte 0xF0#8 }) (fun t => (t.cpu.sp, t.cpu.f, t.cycles))
      = some (0xFFFF#16, 0x00#8, 16) := by decide

/-! ## Rotates, shifts, bits (95_test_vectors.md 2.4) -/

theorem test_rlca :
    seen (step <| (unit [0x07#8]).mapCpu fun u => { u with a := 0x85#8 }) (fun t => (t.cpu.a, t.cpu.f, t.cycles))
      = some (0x0B#8, 0x10#8, 4) := by decide

theorem test_rla :
    seen (step <| (unit [0x17#8]).mapCpu fun u => { u with a := 0x95#8, flags := .ofByte 0x10#8 }) (fun t => (t.cpu.a, t.cpu.f, t.cycles))
      = some (0x2B#8, 0x10#8, 4) := by decide

theorem test_rrca :
    seen (step <| (unit [0x0F#8]).mapCpu fun u => { u with a := 0x3B#8 }) (fun t => (t.cpu.a, t.cpu.f, t.cycles))
      = some (0x9D#8, 0x10#8, 4) := by decide

theorem test_rra :
    seen (step <| (unit [0x1F#8]).mapCpu fun u => { u with a := 0x81#8 }) (fun t => (t.cpu.a, t.cpu.f, t.cycles))
      = some (0x40#8, 0x10#8, 4) := by decide

theorem test_rlc_B :
    seen (step <| (unit [0xCB#8, 0x00#8]).mapCpu fun u => { u with b := 0x85#8 }) (fun t => (t.cpu.b, t.cpu.f, t.cycles))
      = some (0x0B#8, 0x10#8, 8) := by decide

theorem test_rrc_C :
    seen (step <| (unit [0xCB#8, 0x09#8]).mapCpu fun u => { u with c := 0x01#8 }) (fun t => (t.cpu.c, t.cpu.f, t.cycles))
      = some (0x80#8, 0x10#8, 8) := by decide

theorem test_rl_L :
    seen (step <| (unit [0xCB#8, 0x15#8]).mapCpu fun u => { u with l := 0x80#8 }) (fun t => (t.cpu.l, t.cpu.f, t.cycles))
      = some (0x00#8, 0x90#8, 8) := by decide

theorem test_rr_A :
    seen (step <| (unit [0xCB#8, 0x1F#8]).mapCpu fun u => { u with a := 0x01#8 }) (fun t => (t.cpu.a, t.cpu.f, t.cycles))
      = some (0x00#8, 0x90#8, 8) := by decide

theorem test_sla_D :
    seen (step <| (unit [0xCB#8, 0x22#8]).mapCpu fun u => { u with d := 0xFF#8 }) (fun t => (t.cpu.d, t.cpu.f, t.cycles))
      = some (0xFE#8, 0x10#8, 8) := by decide

theorem test_sra_A :
    seen (step <| (unit [0xCB#8, 0x2F#8]).mapCpu fun u => { u with a := 0x8A#8 }) (fun t => (t.cpu.a, t.cpu.f, t.cycles))
      = some (0xC5#8, 0x00#8, 8) := by decide

theorem test_swap_A :
    seen (step <| (unit [0xCB#8, 0x37#8]).mapCpu fun u => { u with a := 0xF1#8 }) (fun t => (t.cpu.a, t.cpu.f, t.cycles))
      = some (0x1F#8, 0x00#8, 8) := by decide

theorem test_srl_A :
    seen (step <| (unit [0xCB#8, 0x3F#8]).mapCpu fun u => { u with a := 0xFF#8 }) (fun t => (t.cpu.a, t.cpu.f, t.cycles))
      = some (0x7F#8, 0x10#8, 8) := by decide

theorem test_bit_4_L :
    seen (step <| (unit [0xCB#8, 0x65#8]).mapCpu fun u => { u with l := 0xEF#8 }) (fun t => (t.cpu.l, t.cpu.f, t.cycles))
      = some (0xEF#8, 0xA0#8, 8) := by decide

theorem test_res_7_A :
    seen (step <| (unit [0xCB#8, 0xBF#8]).mapCpu fun u => { u with a := 0x80#8, flags := .ofByte 0xF0#8 }) (fun t => (t.cpu.a, t.cpu.f, t.cycles))
      = some (0x00#8, 0xF0#8, 8) := by decide

theorem test_set_1_E :
    seen (step <| (unit [0xCB#8, 0xCB#8]).mapCpu fun u => { u with e := 0x00#8 }) (fun t => (t.cpu.e, t.cpu.f, t.cycles))
      = some (0x02#8, 0x00#8, 8) := by decide

set_option maxRecDepth 4000 in
theorem test_set_3_atHL :
    seen (step <| (withWram (unit [0xCB#8, 0xDE#8]) [(0x200, 0x00#8)]).mapCpu fun u => { u with h := 0xC2#8, l := 0x00#8 }) (fun t => (t.read 0xC200#16, t.cycles))
      = some (0x08#8, 16) := by decide

/-! ## Control transfer (95_test_vectors.md 2.5) -/

set_option maxRecDepth 4000 in
theorem test_jp_NZ_taken :
    seen (step <| unit [0xC2#8, 0x00#8, 0xD0#8]) (fun t => (t.cpu.pc, t.cycles))
      = some (0xD000#16, 16) := by decide

set_option maxRecDepth 4000 in
theorem test_jp_NZ_not_taken :
    seen (step <| (unit [0xC2#8, 0x00#8, 0xD0#8]).mapCpu fun u => { u with flags := .ofByte 0x80#8 }) (fun t => (t.cpu.pc, t.cycles))
      = some (0xC003#16, 12) := by decide

theorem test_jp_HL :
    seen (step <| (unit [0xE9#8]).mapCpu fun u => { u with h := 0xC8#8, l := 0x00#8 }) (fun t => (t.cpu.pc, t.cycles))
      = some (0xC800#16, 4) := by decide

set_option maxRecDepth 4000 in
theorem test_jr_e_backward :
    seen (step <| unit [0x18#8, 0xFB#8]) (fun t => (t.cpu.pc, t.cycles))
      = some (0xBFFD#16, 12) := by decide

set_option maxRecDepth 4000 in
theorem test_jr_C_far :
    seen (step <| (unit [0x38#8, 0x80#8]).mapCpu fun u => { u with flags := .ofByte 0x10#8 }) (fun t => (t.cpu.pc, t.cycles))
      = some (0xBF82#16, 12) := by decide

theorem test_jr_Z_not_taken :
    seen (step <| unit [0x28#8, 0x10#8]) (fun t => (t.cpu.pc, t.cycles))
      = some (0xC002#16, 8) := by decide

set_option maxRecDepth 4000 in
theorem test_call_nn :
    seen (step <| (unit [0xCD#8, 0x34#8, 0x12#8]).mapCpu fun u => { u with sp := 0xFFFE#16 }) (fun t => (t.read 0xFFFD#16, t.read 0xFFFC#16, t.cpu.sp, t.cpu.pc, t.cycles))
      = some (0xC0#8, 0x03#8, 0xFFFC#16, 0x1234#16, 24) := by decide

set_option maxRecDepth 4000 in
theorem test_call_NC_not_taken :
    seen (step <| (unit [0xD4#8, 0x00#8, 0xC8#8]).mapCpu fun u => { u with flags := .ofByte 0x10#8 }) (fun t => (t.cpu.pc, t.cpu.sp, t.cycles))
      = some (0xC003#16, 0xDFF0#16, 12) := by decide

set_option maxRecDepth 4000 in
theorem test_ret :
    seen (step <| withWram (unit [0xC9#8]) [(0x1ff0, 0x03#8), (0x1ff1, 0x80#8)]) (fun t => (t.cpu.pc, t.cpu.sp, t.cycles))
      = some (0x8003#16, 0xDFF2#16, 16) := by decide

set_option maxRecDepth 4000 in
theorem test_ret_Z_taken :
    seen (step <| (withWram (unit [0xC8#8]) [(0x1ff0, 0x03#8), (0x1ff1, 0x80#8)]).mapCpu fun u => { u with flags := .ofByte 0x80#8 }) (fun t => (t.cpu.pc, t.cpu.sp, t.cycles))
      = some (0x8003#16, 0xDFF2#16, 20) := by decide

set_option maxRecDepth 4000 in
theorem test_reti :
    seen (step <| withWram (unit [0xD9#8]) [(0x1ff0, 0x03#8), (0x1ff1, 0x80#8)]) (fun t => (t.cpu.pc, t.cpu.ime, t.cycles))
      = some (0x8003#16, true, 16) := by decide

set_option maxRecDepth 4000 in
theorem test_rst_00 :
    seen (step <| unit [0xC7#8]) (fun t => (t.cpu.pc, t.read 0xDFEF#16, t.read 0xDFEE#16, t.cycles))
      = some (0x0000#16, 0xC0#8, 0x01#8, 16) := by decide

/-! ## Well-formedness -/

/-- An unassigned-byte term that carries an assigned byte stands for no encoding. -/
theorem test_illegal_with_assigned_byte_refused : (Instr.illegal 0x00#8).wellFormed = false := by decide

theorem test_illegal_with_prefix_refused : ¬ WellFormed (.illegal 0xCB#8) := by decide

/-- Table rows are numbered with the prefix above the second byte (30_encoding.md R119). -/
theorem test_table_words :
    decodeTableWord 16 0xCB37 = some .swap_A ∧ decodeTableWord 8 0x3E = some (.ld_A_n 0x00#8) := by decide

/-! ## System instructions and interrupts (95_test_vectors.md 2.7) -/

/-- The state that vectors of 2.7 set up. -/
def pendingIn (code : List Byte) (ime : Bool) (enable : Byte) (flags : BitVec 5) (sp : Word) : State :=
  let s := unit code
  { s with cpu := { s.cpu with ime := ime, sp := sp }, intr := { pendingFlags := flags, enableMask := enable } }

set_option maxRecDepth 4000 in
theorem test_dispatch_lowest_bit :
    seen (step <| pendingIn [0x00#8] true 0x14#8 0x1E#5 0xD000#16)
      (fun t => (t.cpu.pc, t.intr.pendingFlags, t.cpu.ime, t.read16 0xCFFE#16, t.cycles))
      = some (0x0050#16, 0x1A#5, false, 0xC001#16, 24) := by decide

theorem test_no_dispatch_without_ime :
    seen (step <| pendingIn [0x00#8] false 0x1F#8 0x1F#5 0xD000#16) (fun t => (t.cpu.pc, t.intr.pendingFlags, t.cycles))
      = some (0xC001#16, 0x1F#5, 4) := by decide

set_option maxRecDepth 4000 in
/-- The push of the dispatch overwrites `IE`; the dispatch is not cancelled. -/
theorem test_dispatch_over_ie :
    seen (step <| pendingIn [0x00#8] true 0x04#8 0x04#5 0x0001#16)
      (fun t => (t.cpu.pc, t.intr.pendingFlags, t.intr.enableMask, t.cpu.sp, t.cycles))
      = some (0x0050#16, 0x00#5, 0x01#8, 0xFFFF#16, 24) := by decide

theorem test_ei_waits :
    seen (step <| pendingIn [0xFB#8, 0x3C#8, 0x04#8] false 0x04#8 0x04#5 0xDFF0#16)
      (fun t => (t.cpu.pc, t.cpu.ime, t.cpu.imePending, t.cycles)) = some (0xC001#16, false, true, 4) := by decide

theorem test_di_cancels_ei :
    seen (step <| (pendingIn [0xF3#8] false 0x04#8 0x04#5 0xDFF0#16).mapCpu fun u => { u with imePending := true })
      (fun t => (t.cpu.pc, t.cpu.ime, t.cpu.imePending, t.cycles)) = some (0xC001#16, false, false, 4) := by decide

theorem test_halt_quirk :
    seen (step <| pendingIn [0x76#8, 0x3C#8] false 0x01#8 0x01#5 0xDFF0#16)
      (fun t => (t.cpu.pc, t.cpu.halted, t.cpu.haltBug, t.cycles)) = some (0xC001#16, false, true, 4) := by decide

/-- The byte after `HALT` is read twice: after its first reading `pc` is still at it. -/
theorem test_halt_quirk_next :
    seen (step <| (pendingIn [0x3C#8] false 0x01#8 0x01#5 0xDFF0#16).mapCpu fun u => { u with haltBug := true, a := 0x05#8 })
      (fun t => (t.cpu.pc, t.cpu.a, t.cpu.haltBug, t.cycles)) = some (0xC000#16, 0x06#8, false, 4) := by decide

set_option maxRecDepth 4000 in
theorem test_halt_and_dispatch :
    seen (step <| pendingIn [0x76#8] true 0x04#8 0x04#5 0xDFF0#16)
      (fun t => (t.cpu.pc, t.cpu.halted, t.read 0xDFEF#16, t.read 0xDFEE#16, t.cycles))
      = some (0x0050#16, false, 0xC0#8, 0x01#8, 24) := by decide

set_option maxRecDepth 4000 in
theorem test_wake_and_dispatch :
    seen (step <| (pendingIn [0x00#8] true 0x04#8 0x04#5 0xDFF0#16).mapCpu fun u => { u with halted := true })
      (fun t => (t.cpu.pc, t.cpu.halted, t.read 0xDFEF#16, t.read 0xDFEE#16, t.cycles))
      = some (0x0050#16, false, 0xC0#8, 0x00#8, 24) := by decide

theorem test_unassigned :
    seen (step <| unit [0xDD#8]) (fun t => (t.cpu.fault, t.cpu.pc, t.cycles))
      = some (some ⟨0xC000#16, 0xDD#8⟩, 0xC000#16, 0) := by decide

theorem test_stop :
    seen (step <| unit [0x10#8, 0x00#8, 0x3C#8]) (fun t => (t.cpu.stopped, t.timer.divCounter, t.cpu.pc, t.cycles))
      = some (true, 0x0004#16, 0xC002#16, 4) := by decide

/-! ## The bus (95_test_vectors.md 2.6) -/

theorem test_echo : ((unit []).write 0xC123#16 0x5A#8).read 0xE123#16 = 0x5A#8 := by decide

theorem test_echo_back : ((unit []).write 0xFDFF#16 0x77#8).read 0xDDFF#16 = 0x77#8 := by decide

theorem test_gaps_read_open_bus :
    [0xFEA0#16, 0xFF03#16, 0xFF10#16, 0xFF7F#16, 0xFF50#16].map (unit []).read = List.replicate 5 0xFF#8 := by decide

theorem test_registers_read_back :
    [(0xFFFF#16, 0xFF#8), (0xFF0F#16, 0xFF#8), (0xFF07#16, 0xFF#8), (0xFF02#16, 0x00#8)].map
        (fun p => ((unit []).write p.1 p.2).read p.1)
      = [0xFF#8, 0xFF#8, 0xFF#8, 0x7E#8] := by decide

/-- A cartridge with `MBC1`, eight banks of ROM, bank `b` beginning with 0xB0 + `b`, and RAM. -/
def banked (ram : RamSize) : State :=
  State.powerOn { cart := .mbc1 ram, romSize := .b8, bootPresent := false }
    ((List.range 8).map fun b => (b * 0x4000, BitVec.ofNat 8 (0xB0 + b))) [] 0

/-- Several bus writes. -/
def writes (s : State) : List (Word × Byte) → State
  | [] => s
  | (a, v) :: ws => writes (s.write a v) ws

theorem test_bank_low :
    [0x00#8, 0x20#8, 0x1F#8, 0x08#8, 0xE3#8].map
        (fun v => let t := (banked .none).write 0x2000#16 v; (t.cart.romBank, t.read 0x4000#16))
      = [(0x01#7, 0xB1#8), (0x01#7, 0xB1#8), (0x1F#7, 0xB7#8), (0x08#7, 0xB0#8), (0x03#7, 0xB3#8)] := by decide

theorem test_bank_high :
    (let t := writes (banked .none) [(0x2000#16, 0x03#8), (0x4000#16, 0x01#8), (0x2000#16, 0x00#8)]
    (t.cart.romBank, t.read 0x4000#16, t.read 0x0000#16)) = (0x21#7, 0xB1#8, 0xB0#8) := by decide

theorem test_cartridge_ram :
    (let t := writes (banked .k32) [(0x0000#16, 0x0A#8), (0x6000#16, 0x01#8), (0x4000#16, 0x02#8), (0xA000#16, 0x22#8)]
    (t.read 0xA000#16, t.cart.ramBank, t.mem.eram)) = (0x22#8, 2#2, [(0x4000, 0x22#8)]) := by decide

theorem test_cartridge_ram_small :
    (let t := writes (banked .k2) [(0x0000#16, 0x0A#8), (0xA000#16, 0x5A#8)]
    (t.read 0xA800#16, t.read 0xB800#16, (t.write 0x0000#16 0x1B#8).read 0xA000#16)) = (0x5A#8, 0x5A#8, 0xFF#8) := by decide

/-- Gate with the LCD on, in modes 2, 3 and 0. -/
def gated (m : Mode) : State :=
  let s := State.reset
  { s with ppu := { s.ppu with mode := m }, mem := { s.mem with vram := [(0, 0x12#8)], oam := [(0, 0x34#8)] } }

theorem test_gate :
    [Mode.oamSearch, .pixelTransfer, .horizontalBlank].map (fun m =>
        let t := writes (gated m) [(0x8000#16, 0x99#8), (0xFE00#16, 0x88#8)]
        ((gated m).read 0x8000#16, (gated m).read 0xFE00#16, t.mem.read .vram 0, t.mem.read .oam 0))
      = [(0x12#8, 0xFF#8, 0x99#8, 0x34#8), (0xFF#8, 0xFF#8, 0x12#8, 0x34#8), (0x12#8, 0x34#8, 0x99#8, 0x88#8)] := by
  decide

/-- A machine with a bootstrap program. -/
def booted : State :=
  State.powerOn { cart := .noMbc, romSize := .b2, bootPresent := true } [(0x0000, 0x77#8), (0x00FF, 0x78#8), (0x0100, 0x79#8)]
    [(0x0000, 0xAA#8), (0x00FF, 0xBB#8)] 0

theorem test_overlay :
    ([0x0000#16, 0x00FF#16, 0x0100#16].map booted.read, [0x0000#16, 0x00FF#16].map (booted.write 0xFF50#16 0x01#8).read,
        (booted.write 0xFF50#16 0x02#8).bootOverlay)
      = ([0xAA#8, 0xBB#8, 0x79#8], [0x77#8, 0x78#8], true) := by decide

/-! ## Devices (95_test_vectors.md 2.8 to 2.12) -/

/-- The timer alone. -/
def timed (tac : BitVec 3) (tima tma : Byte) (sub : Nat) : State :=
  let s := unit []
  { s with timer := { s.timer with tac := tac, tima := tima, tma := tma, timaSub := sub } }

theorem test_timer_reload :
    (let t := (timed 5#3 0xFF#8 0x80#8 12).timerTick 4; (t.timer.tima, t.timer.timaSub, t.intr.pendingFlags))
      = (0x80#8, 0, 0x04#5) := by decide

theorem test_timer_rate_change :
    (let t := (timed 5#3 0x00#8 0x00#8 200).timerTick 4; (t.timer.tima, t.timer.timaSub)) = (0x0C#8, 12) := by decide

theorem test_divider :
    ((State.reset.timerTick 0x34).read 0xFF04#16, (State.reset.write 0xFF04#16 0x55#8).read 0xFF04#16) = (0xAC#8, 0x00#8) := by
  decide

theorem test_serial :
    (let t := writes (unit []) [(0xFF01#16, 0x41#8), (0xFF02#16, 0x81#8)]
    let u := (t.serialTick 4092).serialTick 4
    (t.serial.serialOut, t.read 0xFF02#16, u.read 0xFF02#16, u.serial.sb, u.intr.pendingFlags))
      = ([0x41#8], 0xFF#8, 0x7F#8, 0xFF#8, 0x08#5) := by decide

theorem test_joypad :
    (let t := ((unit []).write 0xFF00#16 0x20#8).setButton .left true
    let u := ({ t with intr := { t.intr with pendingFlags := 0#5 } } : State).setButton .a true
    (t.read 0xFF00#16, t.intr.pendingFlags, u.intr.pendingFlags, (u.write 0xFF00#16 0x10#8).read 0xFF00#16))
      = (0xED#8, 0x10#5, 0x00#5, 0xDE#8) := by decide

/-- The PPU at a position, LCD on. -/
def placed (m : Mode) (ly : Byte) (dot : Nat) (en : BitVec 4) (lyc : Byte) : State :=
  let s := unit []
  { s with ppu := { s.ppu with lcdc := 0x91#8, mode := m, ly := ly, dot := dot, statEn := en, lyc := lyc } }

theorem test_ppu_vblank :
    (let t := (placed .horizontalBlank 0x8F#8 203 0b0010#4 0x00#8).ppuTick1
    (t.ppu.mode, t.ppu.ly, t.ppu.dot, t.intr.pendingFlags, t.ppu.frames.length, t.read 0xFF41#16))
      = (.verticalBlank, 0x90#8, 0, 0x03#5, 1, 0x91#8) := by decide

theorem test_ppu_coincidence :
    (let t := (placed .horizontalBlank 0x01#8 203 0b1000#4 0x02#8).ppuTick1
    (t.ppu.mode, t.ppu.ly, t.intr.pendingFlags, t.read 0xFF41#16)) = (.oamSearch, 0x02#8, 0x02#5, 0xC6#8) := by decide

/-- The setup of 2.12: tiles 0 and 1, a map of zeros with a few other entries, a sprite table. -/
def picture (lcdc : Byte) (tiles : List Host.Cell) (sprites : List Byte) : State :=
  let s := placed .pixelTransfer 0x00#8 171 0#4 0x00#8
  { s with
    ppu := { s.ppu with lcdc := lcdc, bgp := 0xE4#8, obp0 := 0xE4#8, obp1 := 0x1B#8, wx := 0x0B#8 }
    mem := { s.mem with
      vram := tiles
      oam := (sprites ++ List.replicate (160 - sprites.length) 0x00#8).zipIdx.map fun p => (p.2, p.1) } }

/-- Tile rows of the setup: tile 0 row 0 and tile 1 row 0. -/
def tileRows : List Host.Cell := [(0x0000, 0x33#8), (0x0001, 0x0F#8), (0x0010, 0xFF#8), (0x0011, 0xFF#8)]

set_option maxRecDepth 8000 in
theorem test_sprite_priority :
    (let s := picture 0x93#8 (tileRows ++ (List.range 4).map fun i => (0x1800 + i, 0x00#8))
      [0x10#8, 0x0C#8, 0x01#8, 0x00#8, 0x10#8, 0x0A#8, 0x01#8, 0x10#8, 0x10#8, 0x16#8, 0x01#8, 0x80#8]
    [2, 9, 10, 13, 14, 16, 18].map (s.pixel s.selectedSprites)) = [0#2, 0#2, 3#2, 2#2, 3#2, 3#2, 1#2] := by decide

set_option maxRecDepth 8000 in
theorem test_window :
    (let s := picture 0xF1#8 (tileRows ++ [(0x1800, 0x00#8), (0x1C00, 0x01#8), (0x1C01, 0x00#8)]) []
    [0, 3, 4, 11, 12, 15].map (s.pixel s.selectedSprites)) = [0#2, 1#2, 3#2, 3#2, 0#2, 1#2] := by decide

set_option maxRecDepth 8000 in
theorem test_signed_tiles :
    (let s := picture 0x81#8 [(0x0800, 0xFF#8), (0x0801, 0x00#8), (0x1000, 0x00#8), (0x1001, 0xFF#8), (0x1800, 0x80#8),
      (0x1801, 0x00#8)] []
    [0, 7, 8, 15].map (s.pixel s.selectedSprites)) = [1#2, 1#2, 2#2, 2#2] := by decide

set_option maxRecDepth 8000 in
theorem test_tall_sprite_flipped :
    (let s := picture 0x97#8 (tileRows ++ [(0x0020, 0x80#8), (0x0021, 0x00#8), (0x003E, 0x01#8), (0x003F, 0x01#8), (0x1800, 0x00#8)])
      [0x10#8, 0x08#8, 0x02#8, 0x60#8]
    [0, 1, 2, 7].map (s.pixel s.selectedSprites)) = [3#2, 0#2, 1#2, 3#2] := by decide

/-! ## Witnesses: states and operands that meet the hypotheses of each statement -/

/-- The unit state with `IME`, requests and enables set. -/
def signals (ime : Bool) (enable : Byte) (flags : BitVec 5) : State := pendingIn [0x00#8] ime enable flags 0xDFF0#16

theorem witness_DecodeAndEncodeAgree :
    WellFormed (.illegal 0xD3#8) ∧ WellFormed (.ld_BC_nn 0xFFFF#16)
      ∧ decode [0x01#8, 0xFF#8, 0xFF#8] = .ok (.ld_BC_nn 0xFFFF#16, []) ∧ decode [0xFD#8] = .ok (.illegal 0xFD#8, []) := by
  decide

theorem witness_DecoderIsTotal :
    2 ≤ [0x00#8, 0x00#8].length ∧ 0xD3#8 ∈ unassignedBytes ∧ 0xFD#8 ∈ unassignedBytes ∧ 0xCB#8 ∉ unassignedBytes := by decide

theorem witness_StepRunsTheDecodedInstruction :
    let s := unit [0x01#8, 0x34#8, 0x12#8]
    s.running ∧ s.cpu.haltBug = false
      ∧ decode [s.read s.cpu.pc, s.read (s.cpu.pc + 1#16), s.read (s.cpu.pc + 2#16)] = .ok (.ld_BC_nn 0x1234#16, []) :=
  ⟨⟨rfl, rfl, rfl⟩, rfl, by decide⟩

theorem witness_HaltBugReadsTheByteTwice :
    let s := (unit [0x3E#8, 0x42#8]).mapCpu fun u => { u with haltBug := true }
    s.running ∧ s.cpu.haltBug = true
      ∧ decode [s.read s.cpu.pc, s.read s.cpu.pc, s.read (s.cpu.pc + 1#16)] = .ok (.ld_A_n 0x3E#8, [0x42#8])
      ∧ Instr.ld_A_n 0x3E#8 ≠ .halt ∧ (∀ op, Instr.ld_A_n 0x3E#8 ≠ .illegal op)
      ∧ (Instr.ld_A_n 0x3E#8).condition = none ∧ (Instr.ld_A_n 0x3E#8).alwaysTransfers = false :=
  ⟨⟨rfl, rfl, rfl⟩, rfl, by decide, by decide, fun _ => nofun, rfl, rfl⟩

/-- Halted, with a choice of requests. -/
def haltedAt (ime : Bool) (flags : BitVec 5) : State := (signals ime 0x1F#8 flags).mapCpu fun u => { u with halted := true }

theorem witness_HaltedStep :
    let s := haltedAt false 0x00#5
    let t := haltedAt false 0x10#5
    let u := haltedAt true 0x01#5
    (s.cpu.fault = none ∧ s.cpu.stopped = false ∧ s.cpu.halted = true ∧ s.pendingEnabled = 0#5)
      ∧ (t.cpu.fault = none ∧ t.cpu.stopped = false ∧ t.cpu.halted = true ∧ t.pendingEnabled ≠ 0#5 ∧ t.cpu.ime = false
        ∧ t.cpu.imePending = false)
      ∧ (u.cpu.fault = none ∧ u.cpu.stopped = false ∧ u.cpu.halted = true ∧ u.pendingEnabled ≠ 0#5
        ∧ (u.cpu.ime = true ∨ u.cpu.imePending = true)) := by decide

/-- Stopped. -/
def stoppedAt : State := (unit []).mapCpu fun u => { u with stopped := true }

/-- The prescaler at the bound of its period. -/
theorem witness_StoppedAndFaultedMachines :
    (stoppedAt.isStopped ∧ stoppedAt.timer.ok)
      ∧ TimerState.ok { stoppedAt.timer with tac := 5#3, timaSub := 15 }
      ∧ ((unit []).raiseUnsupported 0xDD#8).cpu.fault = some ⟨0xC000#16, 0xDD#8⟩ :=
  ⟨⟨⟨rfl, rfl⟩, by decide, by decide⟩, ⟨by decide, by decide⟩, rfl⟩

theorem witness_UnassignedByteRaisesTheFault :
    0xDD#8 ∈ unassignedBytes ∧ (unit [0xDD#8]).running ∧ (unit [0xDD#8]).timer.ok
      ∧ (unit [0xDD#8]).read (unit [0xDD#8]).cpu.pc = 0xDD#8 :=
  ⟨by decide, ⟨rfl, rfl, rfl⟩, ⟨by decide, by decide⟩, by decide⟩

theorem witness_EveryInstructionRuns :
    (∀ op, Instr.nop ≠ .illegal op) ∧ Instr.nop.alwaysTransfers = false
      ∧ Instr.nop.condition.any (unit []).cpu.flags.test = false
      ∧ (Instr.jr_Z_e 0x10#8).condition.any (unit []).cpu.flags.test = false :=
  ⟨fun _ => nofun, rfl, rfl, rfl⟩

theorem witness_StepAdvancesByLengthAndCost :
    let s := signals false 0x1F#8 0x1F#5
    let t := signals true 0x00#8 0x1F#5
    s.running ∧ (∀ op, s.fetched ≠ .illegal op) ∧ exec s.fetched s.delayedEnable = .next (s.consume 1 4)
      ∧ (s.consume 1 4).cpu.ime = false
      ∧ t.running ∧ (∀ op, t.fetched ≠ .illegal op) ∧ exec t.fetched t.delayedEnable = .next (t.consume 1 4)
      ∧ (t.consume 1 4).pendingEnabled = 0#5 := by
  have hs : (signals false 0x1F#8 0x1F#5).fetched = .nop := by decide
  have ht : (signals true 0x00#8 0x1F#5).fetched = .nop := by decide
  dsimp only
  rw [hs, ht]
  exact ⟨⟨rfl, rfl, rfl⟩, fun _ => nofun, rfl, rfl, ⟨rfl, rfl, rfl⟩, fun _ => nofun, rfl, by decide⟩

/-- One address for each clause of `StoredByte`, at the bounds of the ranges. -/
theorem witness_StoredByte :
    let s := unit []
    let g := gated .pixelTransfer
    (0x7FFF#16).toNat ≤ 0x7FFF
      ∧ (0x7FFF < (0x8000#16).toNat ∧ g.denied 0x8000#16 = true) ∧ (g.denied 0xFE9F#16 = true)
      ∧ (s.denied 0xFEA0#16 = false ∧ s.place 0xFEA0#16 = .unmapped) ∧ (s.denied 0xA000#16 = false ∧ s.place 0xA000#16 = .unmapped)
      ∧ (s.denied 0x8000#16 = false ∧ s.place 0x8000#16 = .cell .vram 0) ∧ s.place 0xFFFE#16 = .cell .hram 0x7E
      ∧ (s.denied 0xFFFF#16 = false ∧ s.place 0xFFFF#16 = .ie)
      ∧ (s.denied 0xFF46#16 = false ∧ s.place 0xFF46#16 = .io .dma) := by decide

theorem witness_PopPair : StackPair.bc ≠ .af ∧ StackPair.af = .af := by decide

theorem witness_StackGivesBackWhatWasPushed :
    let s := unit []
    let t := s.mapCpu fun u => { u with sp := 0xE001#16 }
    s.plainAt (s.cpu.sp - 1#16) ∧ s.plainAt (s.cpu.sp - 2#16) ∧ t.plainAt (t.cpu.sp - 1#16) ∧ t.plainAt (t.cpu.sp - 2#16) :=
  ⟨⟨by decide, by decide, .wram, 0x1FEF, by decide⟩, ⟨by decide, by decide, .wram, 0x1FEE, by decide⟩,
    ⟨by decide, by decide, .wram, 0x0000, by decide⟩, ⟨by decide, by decide, .wram, 0x1FFF, by decide⟩⟩

theorem witness_DecimalAdjustIsDecimalArithmetic :
    isDecimal ((unit []).mapCpu fun u => { u with a := 0x99#8 }).cpu.a ∧ isDecimal 0x99#8 ∧ isDecimal 0x00#8 :=
  ⟨by unfold isDecimal; decide, by unfold isDecimal; decide, by unfold isDecimal; decide⟩

theorem witness_Returns :
    let s := unit [0xD9#8]
    s.running ∧ s.cpu.imePending = false ∧ s.fetched = .reti := ⟨⟨rfl, rfl, rfl⟩, rfl, by decide⟩

/-- Conditions that hold and conditions that do not, for `Jumps`, `Calls` and `Returns`. -/
theorem witness_Conditions :
    let f := (unit []).cpu.flags
    f.test .nz = true ∧ f.test .z = false ∧ f.test .nc = true ∧ f.test .c = false := by decide

theorem witness_EnableInterruptsIsDelayed :
    let s := pendingIn [0xFB#8] false 0x04#8 0x04#5 0xDFF0#16
    let t := s.mapCpu fun u => { u with imePending := true }
    s.running ∧ s.read s.cpu.pc = 0xFB#8 ∧ s.cpu.ime = false ∧ s.cpu.imePending = false
      ∧ t.running ∧ t.cpu.imePending = true :=
  ⟨⟨rfl, rfl, rfl⟩, by decide, rfl, rfl, ⟨rfl, rfl, rfl⟩, rfl⟩

theorem witness_Halt :
    let s := signals false 0x01#8 0x01#5
    let t := signals false 0x01#8 0x10#5
    (¬ (s.cpu.ime = true ∨ s.intr.pendingFlags &&& s.intr.enableMask.extractLsb' 0 5 = 0#5))
      ∧ (t.cpu.ime = true ∨ t.intr.pendingFlags &&& t.intr.enableMask.extractLsb' 0 5 = 0#5) := by decide

theorem witness_OnlySystemInstructionsChangeControl :
    let s := signals true 0x01#8 0x00#5
    seen (exec .di s) (·.cpu.ime) = some false ∧ seen (exec .ei s) (·.cpu.imePending) = some true
      ∧ seen (exec .reti (signals false 0x00#8 0x00#5)) (·.cpu.ime) = some true
      ∧ seen (exec .halt s) (·.cpu.halted) = some true
      ∧ seen (exec .halt (signals false 0x01#8 0x01#5)) (·.cpu.haltBug) = some true
      ∧ seen (exec (.stop 0x00#8) s) (·.cpu.stopped) = some true
      ∧ seen (exec (.illegal 0xDD#8) s) (·.cpu.fault.isSome) = some true := by decide

theorem witness_InterruptDispatch :
    (signals false 0x1F#8 0x1F#5).cpu.ime = false
      ∧ (let s := signals true 0x1F#8 0x00#5
        ∀ k, k < 5 → (s.intr.pendingFlags.getLsbD k && s.intr.enableMask.getLsbD k) = false)
      ∧ (let s := signals true 0x1F#8 0x1F#5
        s.cpu.ime = true ∧ (s.intr.pendingFlags.getLsbD 0 && s.intr.enableMask.getLsbD 0) = true)
      ∧ (let s := signals true 0x1F#8 0x10#5
        (s.intr.pendingFlags.getLsbD 4 && s.intr.enableMask.getLsbD 4) = true
          ∧ ∀ j, j < 4 → (s.intr.pendingFlags.getLsbD j && s.intr.enableMask.getLsbD j) = false) := by decide

/-- Both ends of each range; the four ranges exclude each other. -/
theorem witness_StorageEchoAndGaps :
    ((0xC000#16).toNat = 0xC000 ∧ (0xDFFF#16).toNat = 0xDFFF) ∧ ((0xFF80#16).toNat = 0xFF80 ∧ (0xFFFE#16).toNat = 0xFFFE)
      ∧ ((0xE000#16).toNat = 0xE000 ∧ (0xFDFF#16).toNat = 0xFDFF)
      ∧ ([0xFEA0#16, 0xFEFF#16, 0xFF03#16, 0xFF08#16, 0xFF0E#16, 0xFF10#16, 0xFF3F#16, 0xFF4C#16, 0xFF4F#16, 0xFF51#16, 0xFF7F#16].all
        fun a => (unit []).place a == .unmapped) = true := by decide

theorem witness_AccessGate :
    let s := gated .oamSearch
    let t := unit []
    ((0x8000#16).toNat = 0x8000 ∧ (0x9FFF#16).toNat = 0x9FFF ∧ (0xFE00#16).toNat = 0xFE00 ∧ (0xFE9F#16).toNat = 0xFE9F)
      ∧ (s.ppu.lcdc.getLsbD 7 = true ∧ s.ppu.mode = .oamSearch)
      ∧ ((gated .pixelTransfer).ppu.lcdc.getLsbD 7 = true ∧ (gated .pixelTransfer).ppu.mode = .pixelTransfer)
      ∧ t.ppu.lcdc.getLsbD 7 = false := by decide

theorem witness_BankControl :
    let s := banked .k32
    s.params.cart = .mbc1 .k32 ∧ s.cart.bankMode = false ∧ (s.write 0x7FFF#16 0x01#8).cart.bankMode = true
      ∧ (s.write 0x7FFF#16 0x01#8).params.cart = .mbc1 .k32
      ∧ [0x0000#16, 0x1FFF#16, 0x2000#16, 0x3FFF#16, 0x4000#16, 0x5FFF#16, 0x6000#16, 0x7FFF#16].map BitVec.toNat
        = [0, 0x1FFF, 0x2000, 0x3FFF, 0x4000, 0x5FFF, 0x6000, 0x7FFF] := by decide

theorem witness_CartridgeWindows :
    (unit []).params.cart = .noMbc ∧ (unit []).bootOverlay = false
      ∧ (booted.params.cart = .noMbc ∧ booted.bootOverlay = true ∧ 0x0100 ≤ (0x0100#16).toNat)
      ∧ ((banked .k2).params.cart = .mbc1 .k2 ∧ (banked .k2).cart.ramEnable = false)
      ∧ ((banked .k2).write 0x0000#16 0x0A#8).cart.ramEnable = true
      ∧ (((banked .none).write 0x0000#16 0x0A#8).params.cart = .mbc1 .none ∧ RamSize.none.bytes = 0)
      ∧ [0x3FFF#16, 0x4000#16, 0x7FFF#16, 0xA000#16, 0xBFFF#16].map BitVec.toNat = [0x3FFF, 0x4000, 0x7FFF, 0xA000, 0xBFFF] := by
  decide

/-- For every statement about `step s = .next t`: a step that stores, and one of a machine with the overlay on. -/
theorem witness_StepAnswersNext :
    (∃ t, step ((unit [0x77#8]).mapCpu fun u => { u with h := 0x20#8 }) = .next t) ∧ (∃ t, step booted = .next t)
      ∧ booted.cpu.fault = none ∧ booted.bootOverlay = true := by
  refine ⟨?_, ?_, rfl, rfl⟩
  · obtain ⟨u, hu⟩ := State.cpuStep_next ((unit [0x77#8]).mapCpu fun u => { u with h := 0x20#8 })
    exact ⟨_, step_eq rfl hu⟩
  · obtain ⟨u, hu⟩ := State.cpuStep_next booted
    exact ⟨_, step_eq rfl hu⟩

/-- An overlay that is still on after a step. -/
theorem witness_BootOverlay :
    booted.bootOverlay = true ∧ (0x00FF#16).toNat ≤ 0x00FF ∧ 0x0100 ≤ (0x0100#16).toNat
      ∧ seen (step booted) (fun t => t.bootOverlay) = some true := by decide

theorem witness_TimerTick :
    (timed 5#3 0xFF#8 0x80#8 12).timer.tac.getLsbD 2 = true ∧ (timed 1#3 0xFF#8 0x80#8 12).timer.tac.getLsbD 2 = false
      ∧ (timaAfter 0xFF#8 0x80#8 1).2 = true ∧ (timaAfter 0xFE#8 0x80#8 1).2 = false := by decide

theorem witness_SerialTransfer :
    let s := writes (unit []) [(0xFF01#16, 0x41#8), (0xFF02#16, 0x81#8)]
    (unit []).serial.serialCount = 0 ∧ (0 < s.serial.serialCount ∧ 4095 < s.serial.serialCount)
      ∧ (0 < s.serial.serialCount ∧ s.serial.serialCount ≤ 4096)
      ∧ ((0x81#8).getLsbD 7 = true ∧ (0x81#8).getLsbD 0 = true) ∧ (0x80#8).getLsbD 0 = false := by decide

theorem witness_JoypadInterrupt :
    let s := (unit []).write 0xFF00#16 0x20#8
    (s.joypad.buttons.get .left = false ∧ s.joypad.sel.getLsbD 0 = false ∧ Button.left.isDirection = true)
      ∧ (s.joypad.sel.getLsbD 1 = true ∧ Button.a.isDirection = false) := by decide

/-- Every mode at the end of its budget and inside it. -/
theorem witness_PpuCycle :
    (placed .oamSearch 0x00#8 79 0#4 0x00#8).ppu.lcdc.getLsbD 7 = true
      ∧ (Mode.oamSearch.budget, Mode.pixelTransfer.budget, Mode.horizontalBlank.budget, Mode.verticalBlank.budget)
        = (79 + 1, 171 + 1, 203 + 1, 455 + 1)
      ∧ 0x8F#8 + 1#8 = 144#8 ∧ 0x99#8 + 1#8 = 154#8 := by decide

theorem witness_FrameTimeline :
    (State.reset.ppu.lcdc.getLsbD 7 = true ∧ State.reset.ppu.Ok)
      ∧ ((placed .verticalBlank 0x99#8 455 0#4 0x00#8).ppu.lcdc.getLsbD 7 = true
        ∧ (placed .verticalBlank 0x99#8 455 0#4 0x00#8).ppu.Ok)
      ∧ ((placed .horizontalBlank 0x8F#8 203 0#4 0x00#8).ppu.Ok) :=
  ⟨⟨by decide, ⟨by decide, by decide, by decide, by decide⟩⟩, ⟨by decide, ⟨by decide, by decide, by decide, by decide⟩⟩,
    ⟨by decide, by decide, by decide, by decide⟩⟩

/-- A state with the LCD off that meets the invariant. -/
theorem witness_InvariantWithOverlay : booted.Inv :=
  ⟨by decide, by decide, ⟨by decide, by decide⟩, by decide, ⟨by decide, by decide, by decide, by decide⟩, rfl, by decide⟩

theorem witness_LcdEnable :
    booted.ppu.lcdc.getLsbD 7 = false ∧ State.reset.ppu.lcdc.getLsbD 7 = true ∧ (0x11#8).getLsbD 7 = false
      ∧ (0x91#8).getLsbD 7 = true := by decide

theorem witness_Composition :
    (143 < 144 ∧ 159 < 160) ∧ (placed .pixelTransfer 0x8F#8 171 0#4 0x00#8).ppu.ly.toNat = 143 := by decide

/-- Sprites enabled with one entry on the scanline, and disabled. -/
theorem witness_SpriteSelection :
    (picture 0x93#8 [] [0x10#8, 0x0C#8]).ppu.lcdc.getLsbD 1 = true ∧ (picture 0x91#8 [] []).ppu.lcdc.getLsbD 1 = false := by
  decide

theorem witness_StepKeepsInvariant : (unit [0x77#8]).Inv ∧ ∃ t, step (unit [0x77#8]) = .next t := by
  refine ⟨⟨by decide, by decide, ⟨by decide, by decide⟩, by decide, ⟨by decide, by decide, by decide, by decide⟩, rfl, by decide⟩, ?_⟩
  obtain ⟨u, hu⟩ := State.cpuStep_next (unit [0x77#8])
  exact ⟨_, step_eq rfl hu⟩

/-- The invariant's clause for `MBC1`. -/
theorem witness_InvariantWithBanks : (banked .k32).Inv := by
  refine ⟨by decide, by decide, ⟨by decide, by decide⟩, by decide, ⟨by decide, by decide, by decide, by decide⟩, ?_, by decide⟩
  show (banked .k32).cart.romBank.extractLsb' 0 5 ≠ 0#5
  decide

end Sys2Proof.Tests
end

section
/-! Proofs of the family 00_scope.md: a step leaves the parameters and the two images alone. -/

namespace Sys2Proof.Machine

/-! ## The images -/

/-- The parameters and the two images, ROM and the bootstrap program, are as they were (00_scope.md R4, 10_state.md R27). -/
structure SameImages (s t : State) : Prop where
  params : t.params = s.params
  rom : t.mem.rom = s.mem.rom
  boot : t.mem.boot = s.mem.boot

theorem SameImages.refl (s : State) : SameImages s s := ⟨rfl, rfl, rfl⟩

theorem SameImages.trans {s t u : State} (h : SameImages s t) (k : SameImages t u) : SameImages s u :=
  ⟨k.params.trans h.params, k.rom.trans h.rom, k.boot.trans h.boot⟩

theorem SameImages.write (s : State) (a : Word) (v : Byte) : SameImages s (s.write a v) :=
  ⟨s.write_params a v, s.write_rom a v, s.write_boot a v⟩

theorem TimerMove.sameImages {s t : State} (h : TimerMove s t) : SameImages s t := by
  obtain ⟨_, _, _, _, rfl⟩ := h
  exact ⟨rfl, rfl, rfl⟩

theorem SerialMove.sameImages {s t : State} (h : SerialMove s t) : SameImages s t := by
  obtain ⟨_, _, _, _, -, rfl⟩ := h
  exact ⟨rfl, rfl, rfl⟩

theorem PpuMove.sameImages {s t : State} (h : PpuMove s t) : SameImages s t := by
  obtain ⟨_, _, _, _, _, _, rfl⟩ := h
  exact ⟨rfl, rfl, rfl⟩

/-- A byte of ROM depends on the image alone: what an unlisted offset holds is the same after every reset. -/
theorem SameImages.read_rom {s t : State} (h : SameImages s t) (off : Nat) : t.mem.read .rom off = s.mem.read .rom off :=
  congrArg (fun m : Memory => (m.find off).getD Config.imageFill) h.rom

theorem SameImages.read_boot {s t : State} (h : SameImages s t) (off : Nat) :
    t.mem.read .boot off = s.mem.read .boot off :=
  congrArg (fun m : Memory => (m.find off).getD Config.imageFill) h.boot

/-- Every kind of change that a step is made of keeps the images: the bus writes because below 0x8000 they reach the bank
registers only, all others because they touch neither memory nor the parameters. -/
theorem kept_sameImages (s : State) : Kept (SameImages s) where
  core _ _ _ h := h.trans ⟨rfl, rfl, rfl⟩
  write t a v h := h.trans (SameImages.write t a v)
  divider _ h := h.trans ⟨rfl, rfl, rfl⟩
  pending _ _ h := h.trans ⟨rfl, rfl, rfl⟩
  timer t n h := h.trans (t.timerTick_move n).sameImages
  ppu t n h := h.trans (t.ppuTick_move n).sameImages
  serial t n h := h.trans (t.serialTick_move n).sameImages

theorem step_sameImages {s t : State} (h : step s = .next t) : SameImages s t :=
  (kept_sameImages s).step (SameImages.refl s) h

/-- Settles O42: a step keeps the parameters and the images because each change it is made of does. -/
theorem imagesAndParametersNeverChange : Obligations.ImagesAndParametersNeverChange := by
  intro s t h
  have same := step_sameImages h
  exact ⟨same.params, same.read_rom, same.read_boot⟩

end Sys2Proof.Machine
end

section
/-! Proofs of the family 10_state.md: the registers on the bus, the bootstrap overlay, the control bits of the CPU, and the
invariant of the state. -/

namespace Sys2Proof.Machine

/-! ## Registers of the I/O block at their addresses (R32) -/

@[simp] theorem State.place_ioAddr (s : State) (r : IoReg) : s.place r.addr = .io r := by
  cases r <;> rfl

@[simp] theorem State.denied_ioAddr (s : State) (r : IoReg) : s.denied r.addr = false := by
  cases r <;> rfl

/-- A bus read at the address of a register is its "R" value. -/
theorem State.read_ioAddr (s : State) (r : IoReg) : s.read r.addr = s.ioRead r := by
  rw [State.read, State.denied_ioAddr, if_neg Bool.false_ne_true, State.readRaw, State.place_ioAddr]
  rfl

theorem IoReg.addr_high (r : IoReg) : 0x7FFF < r.addr.toNat := by
  cases r <;> decide

/-- A bus write at the address of a register is its "W" action. -/
theorem State.write_ioAddr (s : State) (r : IoReg) (v : Byte) : s.write r.addr v = s.ioWrite r v := by
  rw [State.write, if_neg (Nat.not_le_of_lt r.addr_high), State.denied_ioAddr, if_neg Bool.false_ne_true,
    State.place_ioAddr]
  rfl

/-- `IE` stands outside the block, at the last address of the bus (R40, R49). -/
theorem State.read_ie (s : State) : s.read 0xFFFF#16 = s.intr.enableMask := rfl

theorem State.write_ie (s : State) (v : Byte) :
    s.write 0xFFFF#16 v = { s with intr := { s.intr with enableMask := v } } := rfl

/-- `P1` bit by bit: 1, 1, the two select bits, then each line (R33). -/
theorem State.ioRead_p1 (s : State) :
    s.ioRead .p1 = 0b11#2 ++ s.joypad.sel ++ BitVec.ofBool (s.joypad.line 3) ++ BitVec.ofBool (s.joypad.line 2)
      ++ BitVec.ofBool (s.joypad.line 1) ++ BitVec.ofBool (s.joypad.line 0) := by
  simp only [State.ioRead, JoypadState.lines, BitVec.append_assoc, BitVec.cast_eq]

theorem State.ioRead_sc (s : State) :
    s.ioRead .sc = 0x7E#8 ||| (if s.serial.scStart then 0x80#8 else 0#8) ||| (if s.serial.scClock then 1#8 else 0#8) := by
  simp only [State.ioRead]
  cases s.serial.scStart <;> cases s.serial.scClock <;> rfl

theorem State.ioRead_tac (s : State) : s.ioRead .tac = 0xF8#8 ||| s.timer.tac.setWidth 8 := by
  simp only [State.ioRead]
  generalize s.timer.tac = x
  revert x
  decide

theorem State.ioRead_ifr (s : State) : s.ioRead .ifr = 0xE0#8 ||| s.intr.pendingFlags.setWidth 8 := by
  simp only [State.ioRead]
  generalize s.intr.pendingFlags = x
  revert x
  decide

theorem SerialState.writeSc_scStart (p : SerialState) (v : Byte) : (p.writeSc v).scStart = v.getLsbD 7 := by
  unfold SerialState.writeSc
  dsimp only
  split
  · split <;> rfl
  · rfl

theorem SerialState.writeSc_scClock (p : SerialState) (v : Byte) : (p.writeSc v).scClock = v.getLsbD 0 := by
  unfold SerialState.writeSc
  dsimp only
  split
  · split <;> rfl
  · rfl

/-- The divider reads 0 after every write to it (R36). -/
theorem State.read_div_write_div (s : State) (v : Byte) : (s.write IoReg.div.addr v).read IoReg.div.addr = 0#8 := by
  rw [State.read_ioAddr, State.write_ioAddr]
  exact BitVec.extractLsb'_zero

/-- What each register reads as after reset (R33 to R48): boot profile with a bootstrap program, direct profile without. -/
def IoReg.resetValue (bootPresent : Bool) : IoReg → Byte
  | .p1 => 0xFF#8
  | .sb => 0x00#8
  | .sc => 0x7E#8
  | .div => if bootPresent then 0x00#8 else 0xAB#8
  | .tima => 0x00#8
  | .tma => 0x00#8
  | .tac => 0xF8#8
  | .ifr => if bootPresent then 0xE0#8 else 0xE1#8
  | .lcdc => if bootPresent then 0x00#8 else 0x91#8
  | .stat => if bootPresent then 0x84#8 else 0x86#8
  | .scy => 0x00#8
  | .scx => 0x00#8
  | .ly => 0x00#8
  | .lyc => 0x00#8
  | .dma => 0xFF#8
  | .bgp => if bootPresent then 0x00#8 else 0xFC#8
  | .obp0 => if bootPresent then 0x00#8 else 0xFF#8
  | .obp1 => if bootPresent then 0x00#8 else 0xFF#8
  | .wy => 0x00#8
  | .wx => 0x00#8
  | .bootoff => 0xFF#8

/-- No reset value depends on the images, the variant or the number of banks. -/
theorem State.powerOn_ioRead (p : Params) (rom boot : Memory) (epoch : Nat) (r : IoReg) :
    (State.powerOn p rom boot epoch).ioRead r = r.resetValue p.bootPresent := by
  obtain ⟨cart, romSize, present⟩ := p
  show (State.powerOn ⟨.noMbc, .b2, present⟩ [] [] 0).ioRead r = r.resetValue present
  cases present
  · cases r <;> decide
  · cases r <;> decide

theorem State.powerOn_read_ioAddr (p : Params) (rom boot : Memory) (epoch : Nat) (r : IoReg) :
    (State.powerOn p rom boot epoch).read r.addr = r.resetValue p.bootPresent :=
  (State.read_ioAddr _ r).trans (State.powerOn_ioRead p rom boot epoch r)

/-- Settles O44: each register is read and written at its address; the values after reset are those reads of the two
profiles. -/
theorem systemRegistersOnTheBus : Obligations.SystemRegistersOnTheBus := by
  refine ⟨fun s v => ?_, fun p rom boot epoch => ?_⟩
  · refine ⟨⟨(s.read_ioAddr .p1).trans s.ioRead_p1, s.write_ioAddr .p1 v⟩, ⟨s.read_ioAddr .sb, s.write_ioAddr .sb v⟩,
      ⟨(s.read_ioAddr .sc).trans s.ioRead_sc, ?_, ?_⟩,
      ⟨s.read_ioAddr .div, s.write_ioAddr .div v, s.read_div_write_div v⟩,
      ⟨s.read_ioAddr .tima, s.write_ioAddr .tima v⟩, ⟨s.read_ioAddr .tma, s.write_ioAddr .tma v⟩,
      ⟨(s.read_ioAddr .tac).trans s.ioRead_tac, s.write_ioAddr .tac v⟩,
      ⟨(s.read_ioAddr .ifr).trans s.ioRead_ifr, s.write_ioAddr .ifr v⟩, s.read_ie, s.write_ie v⟩
    · exact (congrArg (·.serial.scStart) (s.write_ioAddr .sc v)).trans (s.serial.writeSc_scStart v)
    · exact (congrArg (·.serial.scClock) (s.write_ioAddr .sc v)).trans (s.serial.writeSc_scClock v)
  · have reset := State.powerOn_read_ioAddr p rom boot epoch
    exact ⟨reset .p1, reset .sb, reset .sc, reset .div, reset .tima, reset .tma, reset .tac, reset .ifr, State.read_ie _⟩

/-- `STAT` bit by bit, with the coincidence bit compared at the read (R42). -/
theorem State.ioRead_stat (s : State) :
    s.ioRead .stat = 0x80#8 ||| s.ppu.statEn.setWidth 8 <<< 3 ||| (if s.ppu.ly = s.ppu.lyc then 4#8 else 0#8)
      ||| (if s.ppu.lcdc.getLsbD 7 then s.ppu.mode.code.setWidth 8 else 0#8) := by
  have fields : ∀ (en : BitVec 4) (coin : Bool) (m : BitVec 2),
      1#1 ++ en ++ BitVec.ofBool coin ++ m
        = 0x80#8 ||| en.setWidth 8 <<< 3 ||| (if coin then 4#8 else 0#8) ||| m.setWidth 8 := by decide
  rw [State.ioRead, State.statView, fields, State.lcdOn, apply_ite (BitVec.setWidth 8)]
  simp only [beq_iff_eq, BitVec.setWidth_zero]

/-- Settles O45: as for the system registers; `LY` has no "W" action. -/
theorem videoRegistersOnTheBus : Obligations.VideoRegistersOnTheBus := by
  refine ⟨fun s v => ?_, fun p rom boot epoch => ?_⟩
  · exact ⟨⟨(s.read_ioAddr .stat).trans s.ioRead_stat, s.write_ioAddr .stat v⟩,
      ⟨s.read_ioAddr .scy, s.write_ioAddr .scy v⟩, ⟨s.read_ioAddr .scx, s.write_ioAddr .scx v⟩,
      ⟨s.read_ioAddr .ly, s.write_ioAddr .ly v⟩, ⟨s.read_ioAddr .lyc, s.write_ioAddr .lyc v⟩,
      ⟨s.read_ioAddr .bgp, s.write_ioAddr .bgp v⟩, ⟨s.read_ioAddr .obp0, s.write_ioAddr .obp0 v⟩,
      ⟨s.read_ioAddr .obp1, s.write_ioAddr .obp1 v⟩, ⟨s.read_ioAddr .wy, s.write_ioAddr .wy v⟩,
      ⟨s.read_ioAddr .wx, s.write_ioAddr .wx v⟩⟩
  · have reset := State.powerOn_read_ioAddr p rom boot epoch
    exact ⟨reset .stat, reset .scy, reset .scx, reset .ly, reset .lyc, reset .bgp, reset .obp0, reset .obp1, reset .wy,
      reset .wx⟩

/-! ## Bus writes by their kinds (20_memory.md R53) -/

/-- A property is kept by a bus write when each kind of write keeps it: a control write, a store into a cell, a register's
"W" action, a store into `IE`. -/
theorem State.write_keeps {P : State → Prop} {s : State} (h : P s) (a : Word) (v : Byte)
    (control : P (s.cartWriteControl a.toNat v)) (cell : ∀ r off, P (s.writeCell r off v))
    (io : ∀ r, P (s.ioWrite r v)) (ie : P { s with intr := { s.intr with enableMask := v } }) : P (s.write a v) := by
  unfold State.write
  split
  · exact control
  split
  · exact h
  cases s.place a with
  | cell r off => exact cell r off
  | io r => exact io r
  | ie => exact ie
  | unmapped => exact h

/-! ## The bootstrap overlay (R48, 20_memory.md R54) -/

/-- Below 0x8000 nothing is gated: a read shows the byte of the owner. -/
theorem State.denied_low (s : State) {a : Word} (h : a.toNat ≤ 0x7FFF) : s.denied a = false := by
  have hv : ¬ (0x8000 ≤ a.toNat ∧ a.toNat ≤ 0x9FFF) := by omega
  have ho : ¬ (0xFE00 ≤ a.toNat ∧ a.toNat ≤ 0xFE9F) := by omega
  simp [State.denied, hv, ho]

theorem State.place_overlay (s : State) {a : Word} (on : s.bootOverlay = true) (h : a.toNat ≤ 0x00FF) :
    s.place a = .cell .boot a.toNat := if_pos ⟨h, on⟩

theorem State.read_overlay (s : State) {a : Word} (on : s.bootOverlay = true) (h : a.toNat ≤ 0x00FF) :
    s.read a = s.mem.read .boot a.toNat := by
  rw [State.read, s.denied_low (by omega), if_neg Bool.false_ne_true, State.readRaw, s.place_overlay on h]
  rfl

/-- From 0x0100 on the owner of an address does not depend on the overlay. -/
theorem State.place_above_overlay (s : State) (b : Bool) {a : Word} (h : 0x0100 ≤ a.toNat) :
    State.place { s with bootOverlay := b } a = s.place a := by
  have high (c : Prop) : ¬ (a.toNat ≤ 0x00FF ∧ c) := fun low => by omega
  simp only [State.place, if_neg (high _)]
  rfl

theorem State.readPlace_setOverlay (s : State) (b : Bool) (p : Place) :
    State.readPlace { s with bootOverlay := b } p = s.readPlace p := by
  cases p with
  | io r => cases r <;> rfl
  | _ => rfl

theorem State.read_above_overlay (s : State) (b : Bool) {a : Word} (h : 0x0100 ≤ a.toNat) :
    State.read { s with bootOverlay := b } a = s.read a := by
  simp only [State.read, State.readRaw, s.place_above_overlay b h, State.readPlace_setOverlay]
  rfl

/-- The "W" action of `BOOTOFF` (R48). -/
theorem State.ioWrite_bootoff (s : State) (v : Byte) :
    s.ioWrite .bootoff v = { s with bootOverlay := s.bootOverlay && !v.getLsbD 0 } := by
  simp only [State.ioWrite]
  cases v.getLsbD 0 <;> simp

/-- The overlay is on in `t` only if it was on in `s`. -/
def OverlayNotStarted (s t : State) : Prop := t.bootOverlay = true → s.bootOverlay = true

@[simp] theorem State.cartWriteControl_bootOverlay (s : State) (a : Nat) (v : Byte) :
    (s.cartWriteControl a v).bootOverlay = s.bootOverlay := by rw [State.cartWriteControl_eq]

theorem State.ioWrite_overlayNotStarted (s : State) (r : IoReg) (v : Byte) : OverlayNotStarted s (s.ioWrite r v) := by
  cases r with
  | bootoff =>
    rw [State.ioWrite_bootoff]
    exact fun on => (Bool.and_eq_true_iff.1 on).1
  | dma => simp [OverlayNotStarted, State.ioWrite]
  | _ => exact id

/-- Only a write to `BOOTOFF` reaches the overlay, and it can only end it. -/
theorem kept_overlayNotStarted (s : State) : Kept (OverlayNotStarted s) where
  core _ _ _ h := h
  write t a v h :=
    State.write_keeps (P := OverlayNotStarted s) h a v (by simpa [OverlayNotStarted] using h) (fun _ _ => h)
      (fun r on => h (t.ioWrite_overlayNotStarted r v on)) h
  divider _ h := h
  pending _ _ h := h
  timer t n h := by
    obtain ⟨_, _, _, _, e⟩ := t.timerTick_move n
    rw [e]
    exact h
  ppu t n h := by
    obtain ⟨_, _, _, _, _, _, e⟩ := t.ppuTick_move n
    rw [e]
    exact h
  serial t n h := by
    obtain ⟨_, _, _, _, -, e⟩ := t.serialTick_move n
    rw [e]
    exact h

theorem step_overlayNotStarted {s t : State} (h : step s = .next t) : OverlayNotStarted s t :=
  (kept_overlayNotStarted s).step id h

/-- Settles O46: the overlay is the owner of the lowest 256 addresses alone, and each change a step is made of leaves it or
ends it. -/
theorem bootOverlay : Obligations.BootOverlay :=
  ⟨fun s _ on => ⟨s.read_overlay on, fun high => (s.read_above_overlay false high).symm⟩,
    fun s v => ⟨s.read_ioAddr .bootoff, (s.write_ioAddr .bootoff v).trans (s.ioWrite_bootoff v)⟩,
    fun _ _ => step_overlayNotStarted⟩

/-! ## The control bits of the CPU (R15 to R20) -/

/-- The control bits of the CPU, put together. -/
structure ControlBits where
  ime : Bool
  imePending : Bool
  halted : Bool
  haltBug : Bool
  stopped : Bool
  fault : Option UnsupportedOpcode

def CpuState.control (u : CpuState) : ControlBits :=
  ⟨u.ime, u.imePending, u.halted, u.haltBug, u.stopped, u.fault⟩

theorem CpuState.setReg_control (u : CpuState) (r : Reg8) (v : Byte) : (u.setReg r v).control = u.control := by
  cases r <;> rfl

theorem CpuState.setPair_control (u : CpuState) (p : Pair) (v : Word) : (u.setPair p v).control = u.control := by
  cases p <;> rfl

theorem CpuState.setStackPair_control (u : CpuState) (p : StackPair) (v : Word) :
    (u.setStackPair p v).control = u.control := by
  cases p <;> rfl

namespace ControlKept

variable {s t u : State}

theorem consume (s : State) (n k : Nat) : ControlKept s (s.consume n k) := ⟨rfl, rfl, rfl, rfl, rfl, rfl⟩

theorem of_control (h : ControlKept s t) (e : u.cpu.control = t.cpu.control) : ControlKept s u := by
  obtain ⟨ime, pending, halted, bug, stopped, fault⟩ := ControlBits.mk.inj e
  exact ⟨ime.trans h.ime, pending.trans h.imePending, halted.trans h.halted, stopped.trans h.stopped,
    fault.trans h.fault, bug.trans h.haltBug⟩

theorem write (h : ControlKept s t) (a : Word) (v : Byte) : ControlKept s (t.write a v) :=
  h.of_control (by rw [State.write_cpu])

theorem mapCpu (h : ControlKept s t) (f : CpuState → CpuState) (e : (f t.cpu).control = t.cpu.control) :
    ControlKept s (t.mapCpu f) := h.of_control e

theorem popped (h : ControlKept s t) : ControlKept s t.popped := h.of_control rfl

theorem setFlags (h : ControlKept s t) (f : Flags) : ControlKept s (t.setFlags f) := h.of_control rfl

theorem setResult (h : ControlKept s t) (r : Result8) : ControlKept s (t.setResult r) := h.of_control rfl

theorem setLoc (h : ControlKept s t) (x : Loc8) (v : Byte) : ControlKept s (t.setLoc x v) := by
  cases x with
  | reg r => exact h.of_control (CpuState.setReg_control _ r v)
  | atHL => exact h.write _ v

theorem jump (h : ControlKept s t) (a : Word) : ControlKept s (t.jump a) := h.of_control rfl

theorem push16 (h : ControlKept s t) (v : Word) : ControlKept s (t.push16 v) :=
  h.of_control (by rw [State.push16_cpu]; rfl)

theorem call (h : ControlKept s t) (a : Word) : ControlKept s (t.call a) := (h.push16 _).jump a

theorem ret (h : ControlKept s t) : ControlKept s t.ret := h.popped.jump _

/-- A conditional instruction keeps the control bits if what it does when taken keeps them. -/
theorem branch {cc : Cond} {n k m : Nat} {f : State → State} (hf : ∀ x, ControlKept s x → ControlKept s (f x))
    (e : Machine.branch cc n k m f s = .next t) : ControlKept s t := by
  unfold Machine.branch at e
  split at e
  · cases e
    exact hf _ (consume s n k)
  · cases e
    exact consume s n m

end ControlKept

/-- The instructions that act on the control bits: those of 45_system.md but `NOP`, and `RETI`. -/
def Form.actsOnControl : Form → Bool
  | .halt | .stop _ | .di | .ei | .illegal _ | .reti => true
  | _ => false

/-- Every other instruction is made of changes that keep the control bits. -/
theorem Form.run_controlKept {f : Form} {s t : State} (h : f.run s = .next t) (plain : f.actsOnControl = false) :
    ControlKept s t := by
  have start (n k : Nat) := ControlKept.consume s n k
  cases f with
  | halt | stop | di | ei | illegal | reti => cases plain
  | nop => cases h; exact start _ _
  | ldRegReg | ldRegImm | ldRegMem => cases h; exact (start _ _).mapCpu _ (CpuState.setReg_control _ _ _)
  | ldABc | ldADe | ldANn | ldhAC | ldhAN | ldAHli | ldAHld | ldSpHl | ldHlSp | addHl | addSp =>
    cases h; exact (start _ _).mapCpu _ rfl
  | ldPairImm | incPair | decPair => cases h; exact (start _ _).mapCpu _ (CpuState.setPair_control _ _ _)
  | pop p => cases h; exact (start _ _).popped.mapCpu _ (CpuState.setStackPair_control _ _ _)
  | ldMemReg | ldMemImm | ldBcA | ldDeA | ldNnA | ldhCA | ldhNA => cases h; exact (start _ _).write _ _
  | ldHliA | ldHldA => cases h; exact ((start _ _).write _ _).mapCpu _ rfl
  | ldNnSp nn => cases h; exact ((start _ _).write _ _).write _ _
  | push p => cases h; exact (start _ _).push16 _
  | alu | daa | cpl | rlca | rla | rrca | rra => cases h; exact (start _ _).setResult _
  | inc | dec | rot => cases h; exact ((start _ _).setLoc _ _).setFlags _
  | scf | ccf | bit => cases h; exact (start _ _).setFlags _
  | res | set => cases h; exact (start _ _).setLoc _ _
  | jp | jpHl | jr => cases h; exact (start _ _).jump _
  | jpCond | jrCond => exact ControlKept.branch (fun _ k => k.jump _) h
  | call | rst => cases h; exact (start _ _).call _
  | callCond => exact ControlKept.branch (fun _ k => k.call _) h
  | ret => cases h; exact (start _ _).ret
  | retCond => exact ControlKept.branch (fun _ k => k.ret) h

/-- What `HALT` does to the control bits: it halts, or with `IME` clear it sets `halt_bug` (R261). -/
theorem execHalt_control {s t : State} (h : execHalt s = .next t) :
    t.cpu.control = { s.cpu.control with halted := true, haltBug := false }
      ∨ s.cpu.ime = false ∧ t.cpu.control = { s.cpu.control with haltBug := true } := by
  unfold execHalt at h
  dsimp only at h
  split at h
  · cases h
    exact .inl rfl
  · rename_i off
    split at h
    · cases h
      exact .inl rfl
    · cases h
      exact .inr ⟨Bool.eq_false_iff.2 off, rfl⟩

/-- Settles O36: an instruction that does not act on the control bits keeps them; of the six that do, each changes its
own. -/
theorem onlySystemInstructionsChangeControl : Obligations.OnlySystemInstructionsChangeControl := by
  intro i s t h
  obtain ⟨f, rfl⟩ : ∃ f : Form, f.instr = i := ⟨_, Form.instr_of i⟩
  rw [exec_instr] at h
  cases acts : f.actsOnControl with
  | false =>
    obtain ⟨ime, pending, halted, stopped, fault, bug⟩ := Form.run_controlKept h acts
    exact ⟨absurd ime, absurd pending, absurd halted, fun on => absurd (bug.symm.trans on) nofun, absurd stopped,
      absurd fault⟩
  | true =>
    cases f with
    | halt =>
      rcases execHalt_control h with e | ⟨off, e⟩
      · obtain ⟨ime, pending, halted, bug, stopped, fault⟩ := ControlBits.mk.inj e
        exact ⟨absurd ime, absurd pending, fun _ => ⟨rfl, halted⟩, fun on => absurd (bug.symm.trans on) nofun,
          absurd stopped, absurd fault⟩
      · obtain ⟨ime, pending, halted, bug, stopped, fault⟩ := ControlBits.mk.inj e
        exact ⟨absurd ime, absurd pending, absurd halted, fun _ => ⟨rfl, off⟩, absurd stopped, absurd fault⟩
    | stop n => cases h; exact ⟨absurd rfl, absurd rfl, absurd rfl, nofun, fun _ => ⟨⟨n, rfl⟩, rfl⟩, absurd rfl⟩
    | di => cases h; exact ⟨fun _ => .inl ⟨rfl, rfl⟩, fun _ => .inr ⟨rfl, rfl⟩, absurd rfl, nofun, absurd rfl, absurd rfl⟩
    | ei => cases h; exact ⟨absurd rfl, fun _ => .inl ⟨rfl, rfl⟩, absurd rfl, nofun, absurd rfl, absurd rfl⟩
    | illegal op => cases h; exact ⟨absurd rfl, absurd rfl, absurd rfl, nofun, absurd rfl, fun _ => ⟨op, rfl, rfl⟩⟩
    | reti => cases h; exact ⟨fun _ => .inr ⟨rfl, rfl⟩, absurd rfl, absurd rfl, nofun, absurd rfl, absurd rfl⟩
    | _ => cases acts

/-! ## The invariant (R31) -/

/-- What holds at every point of a step: the invariant, but of the prescaler only its bound of R22. It can be past its period
from a write to `TAC` until the timer's advance (60_exceptions.md R317). Of the overlay see `OverlayNotStarted`. -/
structure State.MidStepInv (s : State) : Prop where
  memWf : s.mem.wf = true
  memWithin : s.mem.within s.params = true
  prescaler : s.timer.timaSub < 1024
  serial : s.serial.serialCount ≤ 4096
  ppu : s.ppu.Ok
  cart : s.cart.ok s.params.cart

theorem State.Inv.midStep {s : State} (h : s.Inv) : s.MidStepInv :=
  ⟨h.memWf, h.memWithin, h.timer.1, h.serial, h.ppu, h.cart⟩

/-- The low five bits of the ROM bank that a write stores are not 0: 0 is replaced by 1 (20_memory.md R64). -/
theorem CartState.writeRomBank_low (k : CartState) (v : Byte) : (k.writeRomBank v).romBank.extractLsb' 0 5 ≠ 0#5 := by
  simp only [CartState.writeRomBank, BitVec.extractLsb'_append_eq_right]
  split
  · decide
  · assumption

/-- A write to the upper bits leaves the low five bits of the ROM bank (20_memory.md R65). -/
theorem CartState.writeUpper_low (k : CartState) (v : Byte) :
    (k.writeUpper v).romBank.extractLsb' 0 5 = k.romBank.extractLsb' 0 5 := by
  simp only [CartState.writeUpper]
  split
  · rfl
  · exact BitVec.extractLsb'_append_eq_right

/-- A control write keeps the cartridge's part of the invariant. -/
theorem State.cartWriteControl_ok {s : State} (h : s.cart.ok s.params.cart) (a : Nat) (v : Byte) :
    (s.cartWriteControl a v).cart.ok s.params.cart := by
  unfold State.cartWriteControl
  generalize s.params.cart = kind at h
  cases kind with
  | noMbc => exact h
  | mbc1 ram =>
    dsimp only
    split
    · exact h
    split
    · exact s.cart.writeRomBank_low v
    split
    · exact fun zero => h ((s.cart.writeUpper_low v).symm.trans zero)
    · exact h

/-- At the start of scanline 0 the PPU meets its part of the invariant, in any mode that its LCD bit allows there. -/
theorem PpuState.ok_lineZero {p : PpuState} (ly : p.ly = 0#8) (dot : p.dot = 0) (mode : p.mode ≠ .verticalBlank)
    (off : p.lcdc.getLsbD 7 = false → p.mode = .horizontalBlank) : p.Ok where
  ly := by simp [ly]
  dot := by
    rw [dot]
    cases p.mode <;> decide
  vblank _ := by simp [ly, mode]
  off h := ⟨off h, ly, dot⟩

/-- A write to `LCDC` keeps the PPU's part of the invariant: one that turns the LCD on or off puts the PPU at the start of
scanline 0 (61_ppu.md R352). -/
theorem PpuState.writeLcdc_ok {p : PpuState} (h : p.Ok) (v : Byte) : (p.writeLcdc v).Ok := by
  unfold PpuState.writeLcdc
  cases was : p.lcdc.getLsbD 7 with
  | true =>
    cases now : v.getLsbD 7 with
    | true => exact ⟨h.ly, h.dot, fun _ => h.vblank was, fun off => absurd (now.symm.trans off) nofun⟩
    | false => exact PpuState.ok_lineZero rfl rfl nofun fun _ => rfl
  | false =>
    cases now : v.getLsbD 7 with
    | true => exact PpuState.ok_lineZero rfl rfl nofun fun off => absurd (now.symm.trans off) nofun
    | false => exact ⟨h.ly, h.dot, fun on => absurd (now.symm.trans on) nofun, fun _ => h.off was⟩

/-- The "W" action of every register keeps the PPU's part of the invariant. -/
theorem State.ioWrite_ppuOk {s : State} (h : s.ppu.Ok) (r : IoReg) (v : Byte) : (s.ioWrite r v).ppu.Ok := by
  cases r with
  | lcdc => exact PpuState.writeLcdc_ok h v
  | dma =>
    rw [State.ioWrite, State.dmaBytes_ppu]
    exact ⟨h.ly, h.dot, h.vblank, h.off⟩
  | bootoff =>
    rw [State.ioWrite_bootoff]
    exact h
  | _ => exact ⟨h.ly, h.dot, h.vblank, h.off⟩

theorem SerialState.writeSc_serialCount_le (p : SerialState) (v : Byte) : (p.writeSc v).serialCount ≤ 4096 := by
  unfold SerialState.writeSc
  dsimp only
  split
  · split
    · exact Nat.le_refl _
    · exact Nat.zero_le _
  · exact Nat.zero_le _

theorem State.ioWrite_serialCount_le {s : State} (h : s.serial.serialCount ≤ 4096) (r : IoReg) (v : Byte) :
    (s.ioWrite r v).serial.serialCount ≤ 4096 := by
  cases r with
  | sc => exact s.serial.writeSc_serialCount_le v
  | dma =>
    rw [State.ioWrite, State.dmaBytes_serial]
    exact h
  | bootoff =>
    rw [State.ioWrite_bootoff]
    exact h
  | _ => exact h

theorem State.ioWrite_timaSub (s : State) (r : IoReg) (v : Byte) : (s.ioWrite r v).timer.timaSub = s.timer.timaSub := by
  cases r with
  | dma => rw [State.ioWrite, State.dmaBytes_timer]
  | bootoff => rw [State.ioWrite_bootoff]
  | _ => rfl

/-- A bus write keeps what holds inside a step. -/
theorem State.MidStepInv.write {s : State} (h : s.MidStepInv) (a : Word) (v : Byte) : (s.write a v).MidStepInv where
  memWf := s.write_wf a v h.memWf
  memWithin := s.write_params a v ▸ s.write_within a v h.memWithin
  prescaler :=
    State.write_keeps (P := fun t => t.timer.timaSub < 1024) h.prescaler a v
      (by rw [State.cartWriteControl_eq]; exact h.prescaler) (fun _ _ => h.prescaler)
      (fun r => s.ioWrite_timaSub r v ▸ h.prescaler) h.prescaler
  serial :=
    State.write_keeps (P := fun t => t.serial.serialCount ≤ 4096) h.serial a v
      (by rw [State.cartWriteControl_eq]; exact h.serial) (fun _ _ => h.serial)
      (fun r => State.ioWrite_serialCount_le h.serial r v) h.serial
  ppu :=
    State.write_keeps (P := fun t => t.ppu.Ok) h.ppu a v
      (by rw [State.cartWriteControl_eq]; exact h.ppu) (fun _ _ => h.ppu)
      (fun r => State.ioWrite_ppuOk h.ppu r v) h.ppu
  cart :=
    State.write_keeps (P := fun t => t.cart.ok t.params.cart) h.cart a v
      (s.cartWriteControl_params a.toNat v ▸ State.cartWriteControl_ok h.cart a.toNat v) (fun _ _ => h.cart)
      (fun r => by rw [State.ioWrite_cart, State.ioWrite_params]; exact h.cart) h.cart

theorem kept_midStepInv : Kept State.MidStepInv where
  core _ _ _ h := ⟨h.memWf, h.memWithin, h.prescaler, h.serial, h.ppu, h.cart⟩
  write _ a v h := h.write a v
  divider _ h := ⟨h.memWf, h.memWithin, h.prescaler, h.serial, h.ppu, h.cart⟩
  pending _ _ h := ⟨h.memWf, h.memWithin, h.prescaler, h.serial, h.ppu, h.cart⟩
  timer s n h := by
    have ok := s.timerTick_ok n h.prescaler
    obtain ⟨_, _, _, _, e⟩ := s.timerTick_move n
    rw [e] at ok ⊢
    exact ⟨h.memWf, h.memWithin, ok.1, h.serial, h.ppu, h.cart⟩
  ppu s n h := by
    have ok := s.ppuTick_ok n h.ppu
    obtain ⟨_, _, _, _, _, _, e⟩ := s.ppuTick_move n
    rw [e] at ok ⊢
    exact ⟨h.memWf, h.memWithin, h.prescaler, h.serial, ok, h.cart⟩
  serial s n h := by
    obtain ⟨_, _, _, _, le, e⟩ := s.serialTick_move n
    rw [e]
    exact ⟨h.memWf, h.memWithin, h.prescaler, le.trans h.serial, h.ppu, h.cart⟩

/-- The CPU's part of a step keeps what its parts keep. -/
theorem Kept.cpuStep {P : State → Prop} (k : Kept P) {s u : State} (h : P s) (e : s.cpuStep = .next u) : P u := by
  rcases State.cpuStep_cases e with ⟨-, rfl⟩ | ⟨-, -, rfl⟩ | ⟨-, -, v, hv, rfl⟩
  · exact k.core _ s.cpu _ h
  · exact k.interruptCheck (k.core _ _ _ (k.delayedEnable h))
  · have hv := k.exec (k.delayedEnable h) hv
    split
    · exact hv
    · exact k.interruptCheck hv

/-- PPU and serial port leave the timer as its own advance left it. -/
theorem State.advance_timer (s : State) : s.advance.timer = (s.timerTick s.cycles).timer := by
  unfold State.advance
  dsimp only
  obtain ⟨_, _, _, _, -, e⟩ := ((s.timerTick s.cycles).ppuTick s.cycles).serialTick_move s.cycles
  obtain ⟨_, _, _, _, _, _, e'⟩ := (s.timerTick s.cycles).ppuTick_move s.cycles
  rw [e, e']

/-- The timer's advance ends every step, so the prescaler is below its period again. -/
theorem step_timerOk {s t : State} (h : s.MidStepInv) (e : step s = .next t) : t.timer.ok := by
  obtain ⟨-, u, hu, rfl⟩ := step_cases e
  rw [State.advance_timer]
  exact u.timerTick_ok _ (kept_midStepInv.cpuStep h hu).prescaler

/-- Settles O57: each change a step is made of keeps `MidStepInv`, the timer's advance makes good the prescaler, and the last
part follows from what a step does to the overlay and the parameters. -/
theorem stepKeepsInvariant : Obligations.StepKeepsInvariant := by
  intro s t h e
  have mid : t.MidStepInv := kept_midStepInv.step h.midStep e
  exact
    { memWf := mid.memWf
      memWithin := mid.memWithin
      timer := step_timerOk h.midStep e
      serial := mid.serial
      ppu := mid.ppu
      cart := mid.cart
      overlay := fun on => (step_sameImages e).params ▸ h.overlay (step_overlayNotStarted e on) }

end Sys2Proof.Machine
end

section
/-! Proofs of the family 20_memory.md: the owners of the address ranges, the access gate, the bank controller and its
windows, the sprite-memory copy. -/

namespace Sys2Proof.Machine

/-! ## Accesses by owner and gate (R52, R53, R70) -/

section Access

variable {s : State} {a : Word}

theorem State.read_denied (gate : s.denied a = true) : s.read a = 0xFF#8 := if_pos gate

theorem State.read_open (gate : s.denied a = false) : s.read a = s.readPlace (s.place a) :=
  if_neg (Bool.eq_false_iff.1 gate)

theorem State.write_control (low : a.toNat ≤ 0x7FFF) (v : Byte) : s.write a v = s.cartWriteControl a.toNat v := if_pos low

theorem State.write_denied (high : 0x7FFF < a.toNat) (gate : s.denied a = true) (v : Byte) : s.write a v = s := by
  rw [State.write, if_neg (Nat.not_le_of_lt high), if_pos gate]

theorem State.write_open (high : 0x7FFF < a.toNat) (gate : s.denied a = false) (v : Byte) :
    s.write a v = s.writePlace (s.place a) v := by
  rw [State.write, if_neg (Nat.not_le_of_lt high), if_neg (Bool.eq_false_iff.1 gate)]

/-- An open address that nothing owns. -/
theorem State.unmapped_access (high : 0x7FFF < a.toNat) (gate : s.denied a = false) (owner : s.place a = .unmapped)
    (v : Byte) : s.read a = 0xFF#8 ∧ s.write a v = s := by
  rw [State.read_open gate, State.write_open high gate, owner]
  exact ⟨rfl, rfl⟩

theorem State.read_cell {r : Region} {off : Nat} (gate : s.denied a = false) (owner : s.place a = .cell r off) :
    s.read a = s.mem.read r off := by
  rw [State.read_open gate, owner]
  rfl

/-- An open address above the control ranges that a cell owns is plain storage. -/
theorem State.cell_access {r : Region} {off : Nat} (high : 0x7FFF < a.toNat) (gate : s.denied a = false)
    (owner : s.place a = .cell r off) (v : Byte) :
    s.read a = s.mem.read r off ∧ s.write a v = { s with mem := s.mem.write r off v } ∧ (s.write a v).read a = v := by
  refine ⟨State.read_cell gate owner, ?_, ?_⟩
  · rw [State.write_open high gate, owner]
    rfl
  · obtain ⟨-, readBack, -⟩ := (s.write_storedByte a v).cell r off high gate owner
    exact readBack

/-- A cell behind a gate that is closed exactly under the condition `closed` (R71). -/
theorem State.gated_access {r : Region} {off : Nat} {closed : Prop} [Decidable closed] (high : 0x7FFF < a.toNat)
    (gate : s.denied a = true ↔ closed) (owner : s.place a = .cell r off) (v : Byte) :
    if closed then s.read a = 0xFF#8 ∧ s.write a v = s
    else s.read a = s.mem.read r off ∧ s.write a v = { s with mem := s.mem.write r off v } := by
  split
  · rename_i shut
    exact ⟨State.read_denied (gate.2 shut), State.write_denied high (gate.2 shut) v⟩
  · rename_i unshut
    obtain ⟨read, write, -⟩ := State.cell_access high (Bool.eq_false_iff.2 (mt gate.1 unshut)) owner v
    exact ⟨read, write⟩

/-! ## The gate (R69 to R71) -/

/-- Outside video RAM and sprite memory nothing is gated. -/
theorem State.denied_ungated (s : State) (vram : a.toNat < 0x8000 ∨ 0x9FFF < a.toNat)
    (oam : a.toNat < 0xFE00 ∨ 0xFE9F < a.toNat) : s.denied a = false := by
  have outsideVram : ¬ (0x8000 ≤ a.toNat ∧ a.toNat ≤ 0x9FFF) := by omega
  have outsideOam : ¬ (0xFE00 ≤ a.toNat ∧ a.toNat ≤ 0xFE9F) := by omega
  simp [State.denied, outsideVram, outsideOam]

theorem State.denied_vram_iff (s : State) (lo : 0x8000 ≤ a.toNat) (hi : a.toNat ≤ 0x9FFF) :
    s.denied a = true ↔ s.ppu.lcdc.getLsbD 7 = true ∧ s.ppu.mode = .pixelTransfer := by
  have outsideOam : ¬ (0xFE00 ≤ a.toNat ∧ a.toNat ≤ 0xFE9F) := by omega
  simp [State.denied, State.vramDenied, State.lcdOn, lo, hi, outsideOam]

theorem State.denied_oam_iff (s : State) (lo : 0xFE00 ≤ a.toNat) (hi : a.toNat ≤ 0xFE9F) :
    s.denied a = true
      ↔ s.ppu.lcdc.getLsbD 7 = true ∧ (s.ppu.mode = .oamSearch ∨ s.ppu.mode = .pixelTransfer) := by
  have outsideVram : ¬ (0x8000 ≤ a.toNat ∧ a.toNat ≤ 0x9FFF) := by omega
  simp [State.denied, State.oamDenied, State.lcdOn, lo, hi, outsideVram]

/-! ## Owners of the address ranges (R51) -/

theorem State.place_rom (s : State) (seen : s.bootOverlay = false ∨ 0x0100 ≤ a.toNat) (hi : a.toNat ≤ 0x7FFF) :
    s.place a = .cell .rom (s.romIndex a.toNat) := by
  have noOverlay : ¬ (a.toNat ≤ 0x00FF ∧ s.bootOverlay = true) := by
    rintro ⟨low, on⟩
    rcases seen with off | above
    · exact Bool.false_ne_true (off.symm.trans on)
    · omega
  rw [State.place, if_neg noOverlay, if_pos hi]

theorem State.place_vram (s : State) (lo : 0x8000 ≤ a.toNat) (hi : a.toNat ≤ 0x9FFF) :
    s.place a = .cell .vram (a.toNat - 0x8000) := by
  simp (disch := omega) only [State.place, if_pos, if_neg]

theorem State.place_eram (s : State) {i : Nat} (lo : 0xA000 ≤ a.toNat) (hi : a.toNat ≤ 0xBFFF)
    (index : s.ramIndex a.toNat = some i) : s.place a = .cell .eram i := by
  simp (disch := omega) only [State.place, if_pos, if_neg, index]

theorem State.place_noRam (s : State) (lo : 0xA000 ≤ a.toNat) (hi : a.toNat ≤ 0xBFFF)
    (index : s.ramIndex a.toNat = none) : s.place a = .unmapped := by
  simp (disch := omega) only [State.place, if_pos, if_neg, index]

theorem State.place_wram (s : State) (lo : 0xC000 ≤ a.toNat) (hi : a.toNat ≤ 0xDFFF) :
    s.place a = .cell .wram (a.toNat - 0xC000) := by
  simp (disch := omega) only [State.place, if_pos, if_neg]

theorem State.place_echo (s : State) (lo : 0xE000 ≤ a.toNat) (hi : a.toNat ≤ 0xFDFF) :
    s.place a = .cell .wram (a.toNat - 0xE000) := by
  simp (disch := omega) only [State.place, if_pos, if_neg]

theorem State.place_spriteMemory (s : State) (lo : 0xFE00 ≤ a.toNat) (hi : a.toNat ≤ 0xFE9F) :
    s.place a = .cell .oam (a.toNat - 0xFE00) := by
  simp (disch := omega) only [State.place, if_pos, if_neg]

theorem State.place_unused (s : State) (lo : 0xFEA0 ≤ a.toNat) (hi : a.toNat ≤ 0xFEFF) : s.place a = .unmapped := by
  simp (disch := omega) only [State.place, if_pos, if_neg]

/-- An address of the I/O block that is in no row of R32 (R58). -/
theorem State.place_noRegister (s : State) (lo : 0xFF00 ≤ a.toNat) (hi : a.toNat ≤ 0xFF7F)
    (noRow : ∀ r : IoReg, a.toNat ≠ r.addr.toNat) : s.place a = .unmapped := by
  have noRegister : IoReg.ofAddr a = none :=
    List.find?_eq_none.2 fun r _ same => noRow r (congrArg BitVec.toNat (eq_of_beq same)).symm
  simp (disch := omega) only [State.place, if_pos, if_neg, noRegister]

theorem State.place_hram (s : State) (lo : 0xFF80 ≤ a.toNat) (hi : a.toNat ≤ 0xFFFE) :
    s.place a = .cell .hram (a.toNat - 0xFF80) := by
  simp (disch := omega) only [State.place, if_pos, if_neg]

/-! ## Storage, echo and gaps (R55 to R59) -/

theorem toNat_sub_echo (lo : 0xE000 ≤ a.toNat) : (a - 0x2000#16).toNat = a.toNat - 0x2000 :=
  BitVec.toNat_sub_of_le (BitVec.le_def.2 (Nat.le_trans (by decide) lo))

/-- An echo address and the address 0x2000 lower have one owner, so they are one cell. -/
theorem State.place_sub_echo (s : State) (lo : 0xE000 ≤ a.toNat) (hi : a.toNat ≤ 0xFDFF) :
    s.place (a - 0x2000#16) = s.place a := by
  have lower := toNat_sub_echo lo
  rw [s.place_echo lo hi, s.place_wram (by omega) (by omega), lower, Nat.sub_sub]

/-- The listed addresses of the I/O block are in no row of R32. -/
theorem IoReg.addr_ne_gap (r : IoReg) {n : Nat}
    (gap : n = 0xFF03 ∨ (0xFF08 ≤ n ∧ n ≤ 0xFF0E) ∨ (0xFF10 ≤ n ∧ n ≤ 0xFF3F) ∨ (0xFF4C ≤ n ∧ n ≤ 0xFF4F)
      ∨ (0xFF51 ≤ n ∧ n ≤ 0xFF7F)) : n ≠ r.addr.toNat := by
  rintro rfl
  revert gap
  cases r <;> decide

end Access

/-- Settles O38: each range has one owner and no gate; the owner of an echo address is the one 0x2000 lower. -/
theorem storageEchoAndGaps : Obligations.StorageEchoAndGaps := by
  intro s a v n
  refine ⟨fun lo hi => ?_, fun lo hi => ?_, fun lo hi => ?_, fun gap => ?_⟩
  · exact State.cell_access (by omega) (s.denied_ungated (by omega) (by omega)) (s.place_wram lo hi) v
  · exact State.cell_access (by omega) (s.denied_ungated (by omega) (by omega)) (s.place_hram lo hi) v
  · have lower := toNat_sub_echo lo
    have gate : s.denied a = false := s.denied_ungated (by omega) (by omega)
    have gate' : s.denied (a - 0x2000#16) = false := s.denied_ungated (by omega) (by omega)
    have owner := s.place_echo lo hi
    have owner' := (s.place_sub_echo lo hi).trans owner
    obtain ⟨read, write, back⟩ := State.cell_access (by omega) gate owner v
    obtain ⟨read', write', back'⟩ := State.cell_access (by omega) gate' owner' v
    have sameWrite := write.trans write'.symm
    exact ⟨read.trans read'.symm, sameWrite, sameWrite ▸ back', sameWrite ▸ back⟩
  · have owner : s.place a = .unmapped := by
      rcases gap with ⟨lo, hi⟩ | gap
      · exact s.place_unused lo hi
      · exact s.place_noRegister (by omega) (by omega) fun r => r.addr_ne_gap gap
    exact State.unmapped_access (by omega) (s.denied_ungated (by omega) (by omega)) owner v

/-- Settles O39: video RAM and sprite memory are cells behind the two gates. -/
theorem accessGate : Obligations.AccessGate := fun s _ v =>
  ⟨fun lo hi => State.gated_access (by omega) (s.denied_vram_iff lo hi) (s.place_vram lo hi) v,
    fun lo hi => State.gated_access (by omega) (s.denied_oam_iff lo hi) (s.place_spriteMemory lo hi) v⟩

/-! ## The control ranges of `MBC1` (R63 to R66) -/

theorem append_eq_ofNat {m n : Nat} (x : BitVec m) (y : BitVec n) :
    x ++ y = BitVec.ofNat (m + n) (x.toNat * 2 ^ n + y.toNat) := by
  rw [← Nat.shiftLeft_eq, Nat.shiftLeft_add_eq_or_of_lt y.isLt, ← BitVec.toNat_append, BitVec.ofNat_toNat,
    BitVec.setWidth_eq]

theorem CartState.writeRamEnable_eq (k : CartState) (v : Byte) :
    k.writeRamEnable v = { k with ramEnable := decide (v.toNat % 16 = 0xA) } := by
  have nibble : v.extractLsb' 0 4 = 0xA#4 ↔ v.toNat % 16 = 0xA := by
    rw [← BitVec.toNat_inj, BitVec.extractLsb'_toNat]
    rfl
  simp only [CartState.writeRamEnable, beq_eq_decide, nibble]

/-- The five bits that R64 stores, with 0 replaced by 1, as a number. -/
theorem toNat_lowBank (v : Byte) :
    (if v.extractLsb' 0 5 = 0#5 then 1#5 else v.extractLsb' 0 5).toNat = if v.toNat % 32 = 0 then 1 else v.toNat % 32 := by
  have five : (v.extractLsb' 0 5).toNat = v.toNat % 32 := BitVec.extractLsb'_toNat 0 5 v
  simp only [apply_ite BitVec.toNat, ← BitVec.toNat_inj, five]
  rfl

theorem CartState.writeRomBank_eq (k : CartState) (v : Byte) :
    k.writeRomBank v =
      { k with romBank := BitVec.ofNat 7 (k.romBank.toNat / 32 * 32 + if v.toNat % 32 = 0 then 1 else v.toNat % 32) } := by
  have upper : (k.romBank.extractLsb' 5 2).toNat = k.romBank.toNat / 32 := by
    have := k.romBank.isLt
    rw [BitVec.extractLsb'_toNat, Nat.shiftRight_eq_div_pow]
    omega
  simp only [CartState.writeRomBank, append_eq_ofNat, toNat_lowBank, upper]
  rfl

theorem CartState.writeUpper_romBank (k : CartState) (v : Byte) (mode : k.bankMode = false) :
    k.writeUpper v = { k with romBank := BitVec.ofNat 7 (v.toNat % 4 * 32 + k.romBank.toNat % 32) } := by
  simp only [CartState.writeUpper, mode, append_eq_ofNat, BitVec.extractLsb'_toNat]
  rfl

theorem CartState.writeUpper_ramBank (k : CartState) (v : Byte) (mode : k.bankMode = true) :
    k.writeUpper v = { k with ramBank := BitVec.ofNat 2 v.toNat } := by
  simp only [CartState.writeUpper, mode]
  rfl

theorem CartState.ok_mbc1_iff (k : CartState) (ram : RamSize) : k.ok (.mbc1 ram) ↔ k.romBank.toNat % 32 ≠ 0 := by
  simp only [CartState.ok, ne_eq, ← BitVec.toNat_inj, BitVec.extractLsb'_toNat]
  rfl

/-- Every bus write keeps the cartridge's part of the invariant, whatever the rest of the state. -/
theorem State.write_cartOk {s : State} (h : s.cart.ok s.params.cart) (a : Word) (v : Byte) :
    (s.write a v).cart.ok s.params.cart :=
  State.write_keeps (P := fun t => t.cart.ok s.params.cart) h a v (State.cartWriteControl_ok h a.toNat v) (fun _ _ => h)
    (fun r => (s.ioWrite_cart r v).symm ▸ h) h

section Mbc1

variable {s : State} {ram : RamSize} {n : Nat}

theorem State.cartWriteControl_ramEnable (kind : s.params.cart = .mbc1 ram) (hi : n ≤ 0x1FFF) (v : Byte) :
    s.cartWriteControl n v = { s with cart := s.cart.writeRamEnable v } := by
  simp only [State.cartWriteControl, kind, if_pos hi]

theorem State.cartWriteControl_romBank (kind : s.params.cart = .mbc1 ram) (lo : 0x2000 ≤ n) (hi : n ≤ 0x3FFF)
    (v : Byte) : s.cartWriteControl n v = { s with cart := s.cart.writeRomBank v } := by
  simp (disch := omega) only [State.cartWriteControl, kind, if_pos, if_neg]

theorem State.cartWriteControl_upper (kind : s.params.cart = .mbc1 ram) (lo : 0x4000 ≤ n) (hi : n ≤ 0x5FFF)
    (v : Byte) : s.cartWriteControl n v = { s with cart := s.cart.writeUpper v } := by
  simp (disch := omega) only [State.cartWriteControl, kind, if_pos, if_neg]

theorem State.cartWriteControl_mode (kind : s.params.cart = .mbc1 ram) (lo : 0x6000 ≤ n) (v : Byte) :
    s.cartWriteControl n v = { s with cart := s.cart.writeMode v } := by
  simp (disch := omega) only [State.cartWriteControl, kind, if_neg]

end Mbc1

/-- Settles O40: a write to each range is one of the four register writes, and every write keeps the cartridge's part of the
invariant. -/
theorem bankControl : Obligations.BankControl := by
  intro s ram a v kind low bank
  refine ⟨fun hi => ?_, fun lo hi => ?_, fun lo hi mode => ?_, fun lo hi mode => ?_, fun lo hi => ?_, fun nonzero => ?_⟩
  · rw [State.write_control (by omega), State.cartWriteControl_ramEnable kind hi, CartState.writeRamEnable_eq]
  · rw [State.write_control (by omega), State.cartWriteControl_romBank kind lo hi, CartState.writeRomBank_eq]
  · rw [State.write_control (by omega), State.cartWriteControl_upper kind lo hi, CartState.writeUpper_romBank _ _ mode]
  · rw [State.write_control (by omega), State.cartWriteControl_upper kind lo hi, CartState.writeUpper_ramBank _ _ mode]
  · rw [State.write_control hi, State.cartWriteControl_mode kind lo]
    rfl
  · have ok : s.cart.ok s.params.cart := kind ▸ (s.cart.ok_mbc1_iff ram).2 nonzero
    exact (CartState.ok_mbc1_iff _ ram).1 (kind ▸ State.write_cartOk ok a v)

/-! ## The cartridge windows (R62, R67, R68) -/

section Windows

variable {s : State} {ram : RamSize} {n : Nat}

theorem State.cartWriteControl_noMbc (kind : s.params.cart = .noMbc) (v : Byte) : s.cartWriteControl n v = s := by
  simp only [State.cartWriteControl, kind]

theorem State.romIndex_noMbc (kind : s.params.cart = .noMbc) :
    s.romIndex n = n / 0x4000 % s.params.romSize.banks * 0x4000 + n % 0x4000 := by
  simp only [State.romIndex, State.romAt, kind]

/-- The lower window shows bank 0 in both banking modes (R67). -/
theorem State.romIndex_mbc1_lower (kind : s.params.cart = .mbc1 ram) (hi : n ≤ 0x3FFF) : s.romIndex n = n := by
  simp only [State.romIndex, State.romAt, kind, if_pos (Nat.lt_succ_of_le hi), Nat.zero_mod, Nat.zero_mul, Nat.zero_add]

theorem State.romIndex_mbc1_upper (kind : s.params.cart = .mbc1 ram) (lo : 0x4000 ≤ n) :
    s.romIndex n = s.cart.romBank.toNat % s.params.romSize.banks * 0x4000 + (n - 0x4000) := by
  simp only [State.romIndex, State.romAt, kind, if_neg (Nat.not_lt_of_le lo)]

theorem State.ramIndex_noMbc (kind : s.params.cart = .noMbc) : s.ramIndex n = none := by
  simp only [State.ramIndex, kind]

theorem State.ramIndex_mbc1 (kind : s.params.cart = .mbc1 ram) :
    s.ramIndex n = if s.cart.ramEnable = false ∨ ram.bytes = 0 then none
      else some ((s.cart.ramBank.toNat * 0x2000 + (n - 0xA000)) % ram.bytes) := by
  simp only [State.ramIndex, kind]

theorem State.read_rom {a : Word} (seen : s.bootOverlay = false ∨ 0x0100 ≤ a.toNat) (hi : a.toNat ≤ 0x7FFF) :
    s.read a = s.mem.read .rom (s.romIndex a.toNat) :=
  State.read_cell (s.denied_low hi) (s.place_rom seen hi)

end Windows

/-- Settles O41: below 0x8000 a read shows the ROM byte at `romIndex`; the RAM window is a cell when `ramIndex` has one and
unmapped otherwise. -/
theorem cartridgeWindows : Obligations.CartridgeWindows := by
  intro s a v n banks seen
  have ungated (lo : 0xA000 ≤ n) (hi : n ≤ 0xBFFF) : s.denied a = false := s.denied_ungated (by omega) (by omega)
  refine ⟨fun kind => ⟨fun hi => ?_, fun hi shown => ?_, fun lo hi => ?_⟩,
    fun ram kind => ⟨fun hi shown => ?_, fun lo hi => ?_, fun lo hi => ?_⟩⟩
  · rw [State.write_control hi, State.cartWriteControl_noMbc kind]
  · rw [State.read_rom shown hi, State.romIndex_noMbc kind]
  · exact State.unmapped_access (by omega) (ungated lo hi) (s.place_noRam lo hi (State.ramIndex_noMbc kind)) v
  · rw [State.read_rom shown (by omega), State.romIndex_mbc1_lower kind hi]
  · rw [State.read_rom (.inr (by omega)) hi, State.romIndex_mbc1_upper kind lo]
  · have index := State.ramIndex_mbc1 (n := n) kind
    split
    · rename_i closed
      exact State.unmapped_access (by omega) (ungated lo hi) (s.place_noRam lo hi (index.trans (if_pos closed))) v
    · rename_i reached
      exact State.cell_access (by omega) (ungated lo hi) (s.place_eram lo hi (index.trans (if_neg reached))) v

/-! ## The sprite-memory copy (R74) -/

theorem SameDevices.dmaBytes (s : State) (v : Byte) (n : Nat) : SameDevices s (s.dmaBytes v n) :=
  ⟨s.dmaBytes_intr v n, s.dmaBytes_timer v n, s.dmaBytes_serial v n, s.dmaBytes_joypad v n, s.dmaBytes_cart v n,
    s.dmaBytes_bootOverlay v n, s.dmaBytes_ppu v n, s.dmaBytes_params v n⟩

theorem pageAddr_eq (v : Byte) (i : Nat) : (v ++ 0#8 : Word) + BitVec.ofNat 16 i = BitVec.ofNat 16 (v.toNat * 0x100 + i) := by
  have page : (v ++ 0#8 : Word) = BitVec.ofNat 16 (v.toNat * 0x100) :=
    (append_eq_ofNat v 0#8).trans (congrArg (BitVec.ofNat 16) (Nat.add_zero _))
  rw [page, BitVec.ofNat_add]

/-- Settles O43: the write starts the copy, and each byte of the copy is read as it was before it began. -/
theorem spriteMemoryCopy : Obligations.SpriteMemoryCopy := by
  intro s v s0 t
  have start : t = s0.dmaBytes v 160 := s.write_ioAddr .dma v
  have copied := s0.dmaBytes_read v 160 (Nat.le_refl _)
  rw [start]
  refine ⟨SameDevices.dmaBytes s0 v 160, s0.dmaBytes_cpu v 160, s0.dmaBytes_cycles v 160, fun i hi => ?_, fun r o out => ?_⟩
  · rw [copied, if_pos ⟨rfl, hi⟩, pageAddr_eq]
  · have outside : ¬ (r = .oam ∧ o < 160) := by
      rintro ⟨rfl, inside⟩
      exact out (List.mem_map_of_mem (List.mem_range.2 inside))
    rw [copied, if_neg outside]

end Sys2Proof.Machine
end

section
/-! Proofs of the family 30_encoding.md: what the first byte of an instruction fixes, and that every assigned instruction
runs with the length and cost of the grids. -/

namespace Sys2Proof

/-! ## What byte 0 fixes (R105, R107, R113) -/

/-- The byte of the unassigned-byte term, none for an instruction. -/
def Instr.unassignedByte : Instr → Option Byte
  | .illegal op => some op
  | _ => none

theorem Instr.unassignedByte_eq_some {i : Instr} {op : Byte} : i.unassignedByte = some op ↔ i = .illegal op := by
  cases i with
  | illegal b => simp [Instr.unassignedByte]
  | _ => exact ⟨nofun, nofun⟩

/-- The length of an instruction and whether it is unassigned: what operands do not change. -/
def Instr.outline (i : Instr) : Nat × Option Byte := (i.length, i.unassignedByte)

theorem decodeX0_outline (y z : Field3) (n : Byte) (nn : Word) :
    (decodeX0 y z n nn).outline = (decodeX0 y z 0#8 0#16).outline := by
  cases z <;> cases y <;> rfl

/-- Every second-table instruction has two bytes (R107, R108). -/
theorem decodeSecond_outline (op2 : Byte) : (decodeSecond op2).outline = (2, none) := by
  revert op2
  decide

theorem decodeX3_outline (y z : Field3) (op n : Byte) (nn : Word) :
    (decodeX3 y z op n nn).outline = (decodeX3 y z op 0#8 0#16).outline := by
  cases z with
  | o3 =>
    cases y with
    | o1 => exact (decodeSecond_outline n).trans (decodeSecond_outline 0#8).symm
    | _ => rfl
  | _ => cases y <;> rfl

/-- The bytes after byte 0 are operands, or select in the second table: neither changes the outline. -/
theorem decodeWindow_outline (b0 b1 b2 : Byte) :
    (decodeWindow b0 b1 b2).outline = (decodeWindow b0 0#8 0#8).outline := by
  unfold decodeWindow
  cases b0.getLsbD 7 <;> cases b0.getLsbD 6
  · exact decodeX0_outline _ _ _ _
  · rfl
  · rfl
  · exact decodeX3_outline _ _ _ _ _

/-- The outline that byte 0 fixes: its length in the grid, 2 for the prefix, and whether it is unassigned. -/
def byteOutline (b0 : Byte) : Nat × Option Byte :=
  (if b0 = 0xCB#8 then 2 else lengthGrid.getD b0.toNat 0, if b0 ∈ unassignedBytes then some b0 else none)

/-- The decoder against the length grid and the list of unassigned bytes, byte by byte. -/
theorem decodeWindow_zero_outline : ∀ b0 : Byte, (decodeWindow b0 0#8 0#8).outline = byteOutline b0 := by decide

theorem byteOutline_length_le : ∀ b0 : Byte, (byteOutline b0).1 ≤ 3 := by decide

/-- With enough bytes the decoder answers, and takes the bytes of the instruction (R116). -/
theorem decode_cons (b0 : Byte) (rest : List Byte)
    (enough : (decodeWindow b0 (rest.getD 0 0) (rest.getD 1 0)).length ≤ (b0 :: rest).length) :
    decode (b0 :: rest) = .ok (decodeWindow b0 (rest.getD 0 0) (rest.getD 1 0),
      (b0 :: rest).drop (decodeWindow b0 (rest.getD 0 0) (rest.getD 1 0)).length) :=
  if_neg (Nat.not_lt_of_le enough)

/-- Settles O3: three bytes are always enough, and the outline of the decoded instruction is the one byte 0 fixes. -/
theorem decoderIsTotal : Obligations.DecoderIsTotal := by
  intro b0 rest three
  have outline := (decodeWindow_outline b0 (rest.getD 0 0) (rest.getD 1 0)).trans (decodeWindow_zero_outline b0)
  have answer := decode_cons b0 rest
  generalize decodeWindow b0 (rest.getD 0 0) (rest.getD 1 0) = i at outline answer
  have length : i.length = (byteOutline b0).1 := congrArg Prod.fst outline
  have unassigned : i.unassignedByte = (byteOutline b0).2 := congrArg Prod.snd outline
  rw [length] at answer
  refine ⟨i, answer ((byteOutline_length_le b0).trans (Nat.succ_le_succ three)), ?_⟩
  unfold byteOutline at unassigned
  split
  · rename_i listed
    exact Instr.unassignedByte_eq_some.1 (unassigned.trans (if_pos listed))
  · rename_i unlisted
    intro op same
    have none : i.unassignedByte = none := unassigned.trans (if_neg unlisted)
    exact absurd (none.symm.trans (Instr.unassignedByte_eq_some.2 same)) nofun

end Sys2Proof

namespace Sys2Proof.Machine

/-! ## Length and cost by form (R107, R110) -/

/-- What the grids say of an instruction: its bytes, and its cycles by whether its condition holds. -/
structure Figures where
  length : Nat
  taken : Nat
  notTaken : Nat

def Figures.cost (g : Figures) (taken : Bool) : Nat := if taken then g.taken else g.notTaken

/-- The figures of an instruction whose cost does not depend on a condition. -/
def Figures.plain (length cost : Nat) : Figures := ⟨length, cost, cost⟩

/-- The figures in the grids, by the bytes of the instruction. -/
def gridFigures (i : Instr) : Figures := ⟨i.length, i.tableCost true, i.tableCost false⟩

theorem gridFigures_cost (i : Instr) (taken : Bool) : (gridFigures i).cost taken = i.tableCost taken := by
  cases taken <;> rfl

/-- The figures of each shape, as its meaning consumes them. -/
def Form.figures : Form → Figures
  | .nop | .halt | .di | .ei | .ldRegReg _ _ | .daa | .cpl | .scf | .ccf | .rlca | .rla | .rrca | .rra | .jpHl => .plain 1 4
  | .illegal _ => .plain 1 0
  | .stop _ => .plain 2 4
  | .ldRegMem _ | .ldMemReg _ | .ldABc | .ldADe | .ldBcA | .ldDeA | .ldhAC | .ldhCA => .plain 1 8
  | .ldAHli | .ldAHld | .ldHliA | .ldHldA | .ldSpHl | .addHl _ | .incPair _ | .decPair _ => .plain 1 8
  | .pop _ => .plain 1 12
  | .push _ | .ret | .reti | .rst _ => .plain 1 16
  | .ldRegImm _ _ => .plain 2 8
  | .ldMemImm _ | .ldhAN _ | .ldhNA _ | .ldHlSp _ | .jr _ => .plain 2 12
  | .addSp _ => .plain 2 16
  | .ldPairImm _ _ => .plain 3 12
  | .ldANn _ | .ldNnA _ | .jp _ => .plain 3 16
  | .ldNnSp _ => .plain 3 20
  | .call _ => .plain 3 24
  | .alu _ x => .plain (Src8.length x) (Src8.cost x)
  | .inc x | .dec x => .plain 1 (incDecCost x)
  | .rot _ x | .res _ x | .set _ x => .plain 2 (prefixedCost x)
  | .bit _ x => .plain 2 (bitCost x)
  | .jrCond _ _ => ⟨2, 12, 8⟩
  | .jpCond _ _ => ⟨3, 16, 12⟩
  | .callCond _ _ => ⟨3, 24, 12⟩
  | .retCond _ => ⟨1, 20, 8⟩

/-- The condition of a conditional form (R240). -/
def Form.condition : Form → Option Cond
  | .jpCond cc _ | .jrCond cc _ | .callCond cc _ | .retCond cc => some cc
  | _ => none

/-- The jumps, calls, returns and restarts that are not conditional. -/
def Form.alwaysTransfers : Form → Bool
  | .jp _ | .jpHl | .jr _ | .call _ | .ret | .reti | .rst _ => true
  | _ => false

theorem Form.condition_of (i : Instr) : (Form.of i).condition = i.condition := by
  cases i <;> rfl

theorem Form.alwaysTransfers_of (i : Instr) : (Form.of i).alwaysTransfers = i.alwaysTransfers := by
  cases i <;> rfl

/-- The figures of a first-table instruction stand in the row of its first byte. -/
theorem gridFigures_first {i : Instr} {b0 : Byte} {rest : List Byte} {n k m : Nat} (bytes : encode i = b0 :: rest)
    (length : rest.length + 1 = n)
    (row : b0 ≠ 0xCB#8 ∧ costGrid.getD b0.toNat 0 = k ∧ costNotTakenGrid.getD b0.toNat 0 = m) :
    gridFigures i = ⟨n, k, m⟩ := by
  obtain ⟨first, taken, notTaken⟩ := row
  have cost (b : Bool) : i.tableCost b = (if b then costGrid else costNotTakenGrid).getD b0.toNat 0 := by
    rw [Instr.tableCost, bytes]
    exact if_neg first
  have len : i.length = n := (congrArg List.length bytes).trans length
  rw [gridFigures, len, cost, cost, if_pos rfl, if_neg Bool.false_ne_true, taken, notTaken]

/-! ### Second table: bytes and cost by the fields of the second byte (R108, R110) -/

theorem encode_rot (op : RotOp) (x : Loc8) : encode (.rot op x) = [0xCB#8, 0b00#2 ++ op.code ++ x.code] := by
  cases op <;> rcases x with ⟨⟨⟩⟩ | _ <;> rfl

theorem encode_bit (b : Field3) (x : Loc8) : encode (.bit b x) = [0xCB#8, 0b01#2 ++ b.code ++ x.code] := by
  cases b <;> rcases x with ⟨⟨⟩⟩ | _ <;> rfl

theorem encode_res (b : Field3) (x : Loc8) : encode (.res b x) = [0xCB#8, 0b10#2 ++ b.code ++ x.code] := by
  cases b <;> rcases x with ⟨⟨⟩⟩ | _ <;> rfl

theorem encode_set (b : Field3) (x : Loc8) : encode (.set b x) = [0xCB#8, 0b11#2 ++ b.code ++ x.code] := by
  cases b <;> rcases x with ⟨⟨⟩⟩ | _ <;> rfl

/-- The cost depends on the quadrant and on whether the operand is memory. -/
theorem secondCost_fields (x : BitVec 2) (y : BitVec 3) (loc : Loc8) :
    secondCost (x ++ y ++ loc.code) = if x = 1#2 then bitCost loc else prefixedCost loc := by
  rcases loc with ⟨⟨⟩⟩ | _ <;> revert x y <;> decide

theorem gridFigures_second {i : Instr} {x : BitVec 2} {y : BitVec 3} {loc : Loc8}
    (bytes : encode i = [0xCB#8, x ++ y ++ loc.code]) :
    gridFigures i = .plain 2 (if x = 1#2 then bitCost loc else prefixedCost loc) := by
  have cost (b : Bool) : i.tableCost b = secondCost (x ++ y ++ loc.code) := by
    rw [Instr.tableCost, bytes]
    exact if_pos rfl
  have len : i.length = 2 := congrArg List.length bytes
  rw [gridFigures, len, cost, cost, secondCost_fields, Figures.plain]

/-! ### The grids against the forms -/

/-- What the meaning of each form consumes is what the grids say of every encoding of that form. -/
theorem Form.gridFigures_instr {f : Form} (assigned : ∀ op, f ≠ .illegal op) : gridFigures f.instr = f.figures := by
  cases f with
  | illegal op => exact absurd rfl (assigned op)
  | ldRegReg dst src => cases dst <;> cases src <;> exact gridFigures_first rfl rfl (by decide)
  | ldRegImm r _ | ldRegMem r | ldMemReg r => cases r <;> exact gridFigures_first rfl rfl (by decide)
  | ldPairImm p _ | push p | pop p | addHl p | incPair p | decPair p =>
    cases p <;> exact gridFigures_first rfl rfl (by decide)
  | alu op x =>
    cases x with
    | reg r => cases op <;> cases r <;> exact gridFigures_first rfl rfl (by decide)
    | atHL => cases op <;> exact gridFigures_first rfl rfl (by decide)
    | imm n => cases op <;> exact gridFigures_first (k := 8) (m := 8) rfl rfl (by decide)
  | inc x | dec x => rcases x with ⟨⟨⟩⟩ | _ <;> exact gridFigures_first rfl rfl (by decide)
  | jpCond cc _ | jrCond cc _ | callCond cc _ | retCond cc => cases cc <;> exact gridFigures_first rfl rfl (by decide)
  | rst t => cases t <;> exact gridFigures_first rfl rfl (by decide)
  | rot op x => exact gridFigures_second (encode_rot op x)
  | bit b x => exact gridFigures_second (encode_bit b x)
  | res b x => exact gridFigures_second (encode_res b x)
  | set b x => exact gridFigures_second (encode_set b x)
  | _ => exact gridFigures_first rfl rfl (by decide)

/-! ## Running past an instruction (R302) -/

/-- `t` stands past `n` bytes that `s` was at, and reports `k` cycles. -/
structure Passed (n k : Nat) (s t : State) : Prop where
  pc : t.cpu.pc = s.after n
  cycles : t.cycles = k

namespace Passed

variable {n k : Nat} {s t : State}

theorem consume (s : State) (n k : Nat) : Passed n k s (s.consume n k) := ⟨rfl, rfl⟩

theorem mapCpu (h : Passed n k s t) (f : CpuState → CpuState) (keeps : ∀ u, (f u).pc = u.pc) :
    Passed n k s (t.mapCpu f) :=
  ⟨(keeps t.cpu).trans h.pc, h.cycles⟩

theorem write (h : Passed n k s t) (a : Word) (v : Byte) : Passed n k s (t.write a v) :=
  ⟨(congrArg CpuState.pc (t.write_cpu a v)).trans h.pc, (t.write_cycles a v).trans h.cycles⟩

theorem popped (h : Passed n k s t) : Passed n k s t.popped := ⟨h.pc, h.cycles⟩

theorem setFlags (h : Passed n k s t) (f : Flags) : Passed n k s (t.setFlags f) := ⟨h.pc, h.cycles⟩

theorem setResult (h : Passed n k s t) (r : Result8) : Passed n k s (t.setResult r) := ⟨h.pc, h.cycles⟩

theorem setLoc (h : Passed n k s t) (x : Loc8) (v : Byte) : Passed n k s (t.setLoc x v) := by
  cases x with
  | reg r => exact ⟨(t.cpu.setReg_pc r v).trans h.pc, h.cycles⟩
  | atHL => exact h.write _ v

theorem push16 (h : Passed n k s t) (v : Word) : Passed n k s (t.push16 v) :=
  ⟨(congrArg CpuState.pc (t.push16_cpu v)).trans h.pc, (t.push16_cycles v).trans h.cycles⟩

end Passed

theorem CpuState.setStackPair_pc (u : CpuState) (p : StackPair) (v : Word) : (u.setStackPair p v).pc = u.pc := by
  cases p <;> rfl

@[simp] theorem State.call_cycles (s : State) (a : Word) : (s.call a).cycles = s.cycles := by
  rw [State.call, State.jump_cycles, State.push16_cycles]

/-- `HALT` goes past itself whether it halts or not (R261). -/
theorem execHalt_passed {s t : State} (h : execHalt s = .next t) : Passed 1 4 s t := by
  unfold execHalt at h
  dsimp only at h
  split at h
  · cases h; exact ⟨rfl, rfl⟩
  split at h
  · cases h; exact ⟨rfl, rfl⟩
  · cases h; exact ⟨rfl, rfl⟩

theorem ldAHlStep_passed {step : Word} {s t : State} (h : ldAHlStep step s = .next t) : Passed 1 8 s t := by
  cases h
  exact (Passed.consume s 1 8).mapCpu _ fun _ => rfl

theorem ldHlStepA_passed {step : Word} {s t : State} (h : ldHlStepA step s = .next t) : Passed 1 8 s t := by
  cases h
  exact ((Passed.consume s 1 8).write _ _).mapCpu _ fun _ => rfl

/-- Outside control transfer an instruction ends past its bytes: nothing after `consume` moves `pc` or the cost. -/
theorem Form.run_passed {f : Form} {s t : State} (h : f.run s = .next t) (assigned : ∀ op, f ≠ .illegal op)
    (unconditional : f.condition = none) (stays : f.alwaysTransfers = false) :
    Passed f.figures.length f.figures.taken s t := by
  have start (n k : Nat) := Passed.consume s n k
  cases f with
  | illegal op => exact absurd rfl (assigned op)
  | jp | jpHl | jr | call | ret | reti | rst => cases stays
  | jpCond | jrCond | callCond | retCond => cases unconditional
  | halt => exact execHalt_passed h
  | nop | stop | di | ei => cases h; exact ⟨rfl, rfl⟩
  | ldRegReg | ldRegImm | ldRegMem => cases h; exact (start _ _).mapCpu _ fun u => u.setReg_pc _ _
  | ldABc | ldADe | ldANn | ldhAC | ldhAN | ldSpHl | ldHlSp | addHl | addSp =>
    cases h; exact (start _ _).mapCpu _ fun _ => rfl
  | ldPairImm | incPair | decPair => cases h; exact (start _ _).mapCpu _ fun u => u.setPair_pc _ _
  | pop p => cases h; exact (start _ _).popped.mapCpu _ fun u => u.setStackPair_pc _ _
  | ldMemReg | ldMemImm | ldBcA | ldDeA | ldNnA | ldhCA | ldhNA => cases h; exact (start _ _).write _ _
  | ldAHli | ldAHld => exact ldAHlStep_passed h
  | ldHliA | ldHldA => exact ldHlStepA_passed h
  | ldNnSp nn => cases h; exact ((start _ _).write _ _).write _ _
  | push p => cases h; exact (start _ _).push16 _
  | alu | daa | cpl | rlca | rla | rrca | rra => cases h; exact (start _ _).setResult _
  | inc | dec | rot => cases h; exact ((start _ _).setLoc _ _).setFlags _
  | scf | ccf | bit => cases h; exact (start _ _).setFlags _
  | res | set => cases h; exact (start _ _).setLoc _ _

/-- `t` comes from `s` by an instruction of the form, as R302 says: the cost by the condition it tests, and `pc` past its
bytes when it does not transfer control. -/
structure Form.Ran (f : Form) (s t : State) : Prop where
  cycles : t.cycles = f.figures.cost (f.condition.all s.cpu.flags.test)
  pc : f.alwaysTransfers = false → f.condition.any s.cpu.flags.test = false → t.cpu.pc = s.after f.figures.length

/-- A conditional instruction takes the larger cost when its condition holds, and is passed at the smaller one otherwise. -/
theorem branch_ran {f : Form} {cc : Cond} {n k m : Nat} {act : State → State} {s t : State}
    (h : branch cc n k m act s = .next t) (condition : f.condition = some cc) (figures : f.figures = ⟨n, k, m⟩)
    (act_cycles : ∀ x, (act x).cycles = x.cycles) : f.Ran s t := by
  unfold branch at h
  split at h
  · rename_i holds
    cases h
    refine ⟨?_, fun _ off => ?_⟩
    · rw [condition, Option.all_some, holds, act_cycles, figures]; rfl
    · rw [condition, Option.any_some, holds] at off; cases off
  · rename_i fails
    cases h
    refine ⟨?_, fun _ _ => ?_⟩
    · rw [condition, Option.all_some, Bool.eq_false_iff.2 fails, figures]; rfl
    · rw [figures]; rfl

/-- Every form but the unassigned bytes runs on its figures: the transfers by their own cost, the rest by `run_passed`. -/
theorem Form.run_ran {f : Form} {s t : State} (h : f.run s = .next t) (assigned : ∀ op, f ≠ .illegal op) :
    f.Ran s t := by
  cases f with
  | jp | jpHl | jr | ret | reti => cases h; exact ⟨rfl, nofun⟩
  | call | rst => cases h; exact ⟨State.call_cycles _ _, nofun⟩
  | jpCond cc nn => exact branch_ran (act := fun x => x.jump nn) h rfl rfl fun _ => rfl
  | jrCond cc e => exact branch_ran (act := fun x => x.jumpRelative e) h rfl rfl fun _ => rfl
  | callCond cc nn => exact branch_ran (act := fun x => x.call nn) h rfl rfl fun x => x.call_cycles nn
  | retCond cc => exact branch_ran (act := State.ret) h rfl rfl fun _ => rfl
  | _ =>
    have passed := Form.run_passed h assigned rfl rfl
    exact ⟨passed.cycles, fun _ _ => passed.pc⟩

/-- Settles O9: the form of the instruction runs on its figures, and these are those of the grids; only an
unassigned byte raises the fault (O36). -/
theorem everyInstructionRuns : Obligations.EveryInstructionRuns := by
  intro i s assigned
  obtain ⟨t, next, effects⟩ := exec_effects i s
  have assignedForm (op : Byte) (e : Form.of i = .illegal op) : False :=
    assigned op ((Form.instr_of i).symm.trans (congrArg Form.instr e))
  have grid : (Form.of i).figures = gridFigures i := by
    rw [← Form.gridFigures_instr assignedForm, Form.instr_of]
  obtain ⟨cycles, pc⟩ := Form.run_ran ((exec_eq_run i s).symm.trans next) assignedForm
  rw [grid, Form.condition_of] at cycles pc
  rw [Form.alwaysTransfers_of] at pc
  obtain ⟨-, -, -, -, -, faults⟩ := onlySystemInstructionsChangeControl i s t next
  refine ⟨t, next, cycles.trans (gridFigures_cost i _), ?_, effects.params, pc⟩
  by_contra changed
  obtain ⟨op, same, -⟩ := faults changed
  exact assigned op same

end Sys2Proof.Machine
end

section
/-! Proofs of the family 40_loads.md: loads and stores of bytes and pairs, the stack, and the displacement of `sp`. -/

namespace Sys2Proof.Machine

/-! ## Encodings (30_encoding.md R105, R106) -/

theorem encode_ldRegReg (dst src : Reg8) : encode (.ldRegReg dst src) = [0b01#2 ++ dst.code ++ src.code] := by
  cases dst <;> cases src <;> rfl

theorem encode_ldRegImm (dst : Reg8) (n : Byte) : encode (.ldRegImm dst n) = [0b00#2 ++ dst.code ++ 0b110#3, n] := by
  cases dst <;> rfl

theorem encode_ldRegMem (dst : Reg8) : encode (.ldRegMem dst) = [0b01#2 ++ dst.code ++ 0b110#3] := by
  cases dst <;> rfl

theorem encode_ldMemReg (src : Reg8) : encode (.ldMemReg src) = [0b01110#5 ++ src.code] := by
  cases src <;> rfl

theorem encode_ldPairImm (p : Pair) (nn : Word) :
    encode (.ldPairImm p nn) = [0b00#2 ++ p.code ++ 0b0001#4, nn.extractLsb' 0 8, nn.extractLsb' 8 8] := by
  cases p <;> rfl

theorem encode_push (p : StackPair) : encode (.push p) = [0b11#2 ++ p.code ++ 0b0101#4] := by
  cases p <;> rfl

theorem encode_pop (p : StackPair) : encode (.pop p) = [0b11#2 ++ p.code ++ 0b0001#4] := by
  cases p <;> rfl

/-! ## From a form to its instruction -/

/-- What a form does, its instruction does. -/
theorem exec_of_run {f : Form} {s : State} {P : State → Prop} (h : ∃ t, f.run s = .next t ∧ P t) :
    ∃ t, exec f.instr s = .next t ∧ P t := by
  rwa [exec_instr]

/-! ## Loads of one register (R130, R131, R132, R135, R136, R139, R141, R143) -/

theorem ldRegReg_loaded (dst src : Reg8) (s : State) :
    ∃ t, ldRegReg dst src s = .next t ∧ Loaded dst (s.cpu.reg src) 1 4 s t := by
  rw [← State.consume_reg s 1 4 src]
  exact ⟨_, rfl, Loaded.setReg s dst _ 1 4⟩

theorem ldRegImm_loaded (dst : Reg8) (n : Byte) (s : State) : ∃ t, ldRegImm dst n s = .next t ∧ Loaded dst n 2 8 s t :=
  ⟨_, rfl, Loaded.setReg s dst n 2 8⟩

/-- The address is that of the pair before the load, also when the load overwrites half of it. -/
theorem ldRegAt_loaded (dst : Reg8) (addr : Pair) (s : State) :
    ∃ t, ldRegAt dst addr s = .next t ∧ Loaded dst (s.read (s.cpu.pair addr)) 1 8 s t := by
  rw [← State.consume_pair s 1 8, ← State.consume_read s 1 8]
  exact ⟨_, rfl, Loaded.setReg s dst _ 1 8⟩

theorem ldAFrom_loaded (n k : Nat) (addr : Word) (s : State) :
    ∃ t, ldAFrom n k addr s = .next t ∧ Loaded .a (s.read addr) n k s t := by
  rw [← State.consume_read s n k]
  exact ⟨_, rfl, Loaded.setReg s .a _ n k⟩

/-- Settles O11: each load is one of the four shared ones. -/
theorem loadRegister : Obligations.LoadRegister := by
  intro dst src nn n s
  rw [← highPage_eq, ← highPage_eq]
  exact ⟨⟨encode_ldRegReg dst src, exec_of_run (f := .ldRegReg dst src) (ldRegReg_loaded dst src s)⟩,
    ⟨encode_ldRegImm dst n, exec_of_run (f := .ldRegImm dst n) (ldRegImm_loaded dst n s)⟩,
    ⟨encode_ldRegMem dst, exec_of_run (f := .ldRegMem dst) (ldRegAt_loaded dst .hl s)⟩,
    ⟨rfl, ldRegAt_loaded .a .bc s⟩,
    ⟨rfl, ldRegAt_loaded .a .de s⟩,
    ⟨rfl, ldAFrom_loaded 3 16 nn s⟩,
    ⟨rfl, ldAFrom_loaded 1 8 (highPage s.cpu.c) s⟩,
    ⟨rfl, ldAFrom_loaded 2 12 (highPage n) s⟩⟩

/-! ## Stores of one byte (R133, R134, R137, R138, R140, R142, R144) -/

theorem ldAtReg_stored (addr : Pair) (src : Reg8) (s : State) :
    ∃ t, ldAtReg addr src s = .next t ∧ Stored (s.cpu.pair addr) (s.cpu.reg src) 1 8 s t := by
  rw [← State.consume_pair s 1 8, ← State.consume_reg s 1 8]
  exact ⟨_, rfl, Stored.write s _ _ 1 8⟩

theorem ldAtHlImm_stored (n : Byte) (s : State) : ∃ t, ldAtHlImm n s = .next t ∧ Stored s.cpu.hl n 2 12 s t :=
  ⟨_, rfl, Stored.write s s.cpu.hl n 2 12⟩

theorem ldAtA_stored (n k : Nat) (addr : Word) (s : State) :
    ∃ t, ldAtA n k addr s = .next t ∧ Stored addr s.cpu.a n k s t :=
  ⟨_, rfl, Stored.write s addr s.cpu.a n k⟩

/-- Settles O12: each store is one of the three shared ones. -/
theorem storeByte : Obligations.StoreByte := by
  intro src nn n s
  rw [← highPage_eq, ← highPage_eq]
  exact ⟨⟨encode_ldMemReg src, exec_of_run (f := .ldMemReg src) (ldAtReg_stored .hl src s)⟩,
    ⟨rfl, ldAtHlImm_stored n s⟩,
    ⟨rfl, ldAtReg_stored .bc .a s⟩,
    ⟨rfl, ldAtReg_stored .de .a s⟩,
    ⟨rfl, ldAtA_stored 3 16 nn s⟩,
    ⟨rfl, ldAtA_stored 1 8 (highPage s.cpu.c) s⟩,
    ⟨rfl, ldAtA_stored 2 12 (highPage n) s⟩⟩

/-! ## Loads and stores that step `HL` (R145 to R148) -/

theorem Passed.advanced {n k : Nat} {s t : State} (h : Passed n k s t) : Advanced n k s t := ⟨h.pc, h.cycles⟩

theorem ldAHlStep_steps (step : Word) (s : State) :
    ∃ t, ldAHlStep step s = .next t ∧ Advanced 1 8 s t ∧ t.cpu.a = s.read s.cpu.hl ∧ t.cpu.hl = s.cpu.hl + step
      ∧ t.cpu.flags = s.cpu.flags ∧ RegisterFrame [.a, .h, .l] s t := by
  have frame (v : Byte) (w : Word) :
      RegisterFrame [.a, .h, .l] s (s.withCore { (s.consume 1 8).cpu.setHl w with a := v } 8) :=
    RegisterFrame.withCore _ s _ 8
      (fun r other => calc
        (((s.consume 1 8).cpu.setPair .hl w).setReg .a v).reg r
        _ = ((s.consume 1 8).cpu.setPair .hl w).reg r := CpuState.setReg_other _ v (List.ne_of_not_mem_cons other)
        _ = (s.consume 1 8).cpu.reg r := CpuState.setPair_reg _ .hl w (List.not_mem_of_not_mem_cons other)
        _ = s.cpu.reg r := s.consume_reg 1 8 r)
      ⟨rfl, rfl, rfl, rfl, rfl, rfl⟩ rfl
  exact ⟨_, rfl, ⟨rfl, rfl⟩, s.consume_read 1 8 _, word_of_halves _, rfl, frame _ _⟩

/-- The store is made at the old `HL`, from the state before the instruction. -/
theorem ldHlStepA_steps (step : Word) (s : State) :
    ∃ t, ldHlStepA step s = .next t ∧ Advanced 1 8 s t ∧ StoredByte s.cpu.hl s.cpu.a s t ∧ t.cpu.hl = s.cpu.hl + step
      ∧ t.cpu.flags = s.cpu.flags ∧ t.cpu.sp = s.cpu.sp ∧ OtherRegsKept [.h, .l] s t ∧ ControlKept s t := by
  obtain ⟨t, run, store, cpu⟩ : ∃ t, ldHlStepA step s = .next t ∧ StoredByte s.cpu.hl s.cpu.a s t
      ∧ t.cpu = (s.consume 1 8).cpu.setPair .hl (s.cpu.hl + step) :=
    ⟨_, rfl, (s.consume_write_stored 1 8 _ _).withCore _ _, by rw [State.mapCpu_cpu, State.write_cpu]; rfl⟩
  refine ⟨t, run, (ldHlStepA_passed run).advanced, store, ?_⟩
  have control : ControlKept s t := (ControlKept.consume s 1 8).of_control (by rw [cpu, CpuState.setPair_control])
  rw [OtherRegsKept, cpu]
  exact ⟨CpuState.setPair_pair _ .hl _, rfl, rfl,
    fun r other => (CpuState.setPair_reg _ .hl _ other).trans (s.consume_reg 1 8 r), control⟩

/-- Settles O13: both loads and both stores are the shared one, with the step down or up. -/
theorem loadStoreStepHl : Obligations.LoadStoreStepHl :=
  ⟨⟨rfl, rfl, rfl, rfl⟩,
    List.forall_mem_cons.2 ⟨ldAHlStep_steps 0xFFFF#16, List.forall_mem_singleton.2 (ldAHlStep_steps 1#16)⟩,
    List.forall_mem_cons.2 ⟨ldHlStepA_steps 0xFFFF#16, List.forall_mem_singleton.2 (ldHlStepA_steps 1#16)⟩⟩

/-! ## Loads of a pair (R149, R150, R151) -/

/-- An instruction after which the CPU is only past its bytes has changed no register, flag or control bit. -/
theorem CpuKept.of_consume {s t : State} {n k : Nat} (h : t.cpu = (s.consume n k).cpu) : CpuKept s t where
  regs r _ := by rw [h, State.consume_reg]
  flags := by rw [h]; rfl
  sp := by rw [h]; rfl
  control := (ControlKept.consume s n k).of_control (by rw [h])

theorem ldPairImm_sets (p : Pair) (nn : Word) (s : State) :
    ∃ t, ldPairImm p nn s = .next t ∧ SetsPair p nn 3 12 s t ∧ t.cpu.flags = s.cpu.flags :=
  ⟨_, rfl, SetsPair.setPair s p nn 3 12, CpuState.setPair_flags _ p nn⟩

theorem execLd_atNN_SP_stored (nn : Word) (s : State) :
    ∃ t, execLd_atNN_SP nn s = .next t ∧ Advanced 3 20 s t ∧ CpuKept s t
      ∧ ∃ m, StoredByte nn (s.cpu.sp.extractLsb' 0 8) s m
        ∧ StoredByte (nn + 1#16) (s.cpu.sp.extractLsb' 8 8) m t :=
  ⟨_, rfl, (((Passed.consume s 3 20).write _ _).write _ _).advanced, CpuKept.of_consume (State.write16_cpu _ _ _),
    _, s.consume_write_stored 3 20 _ _, State.write_storedByte _ _ _⟩

/-- Settles O14: a pair is set as the frame lemmas say; the two bytes of `sp` are two stores, one after the other. -/
theorem loadPair : Obligations.LoadPair :=
  ⟨fun p nn s => ⟨encode_ldPairImm p nn, exec_of_run (f := .ldPairImm p nn) (ldPairImm_sets p nn s)⟩,
    fun nn s => ⟨rfl, execLd_atNN_SP_stored nn s⟩,
    fun s => ⟨rfl, _, rfl, SetsPair.setPair s .sp s.cpu.hl 1 8, rfl⟩⟩

/-! ## The stack (R152, R153) -/

@[simp] theorem State.consume_stackPair (s : State) (n k : Nat) (p : StackPair) :
    (s.consume n k).cpu.stackPair p = s.cpu.stackPair p := by
  cases p <;> rfl

theorem pushPair_pushes (p : StackPair) (s : State) :
    ∃ t, pushPair p s = .next t ∧ Advanced 1 16 s t ∧ Pushed (s.cpu.stackPair p) s t := by
  rw [← State.consume_stackPair s 1 16]
  exact ⟨_, rfl, ((Passed.consume s 1 16).push16 _).advanced, Pushed.push16 s _ 1 16⟩

@[simp] theorem State.consume_stackTop (s : State) (n k : Nat) :
    (s.consume n k).stackTop = s.read (s.cpu.sp + 1#16) ++ s.read s.cpu.sp := by
  rw [State.stackTop, State.read16, State.consume_read, State.consume_read, State.consume_sp]

theorem CpuState.setStackPair_sp (u : CpuState) (p : StackPair) (v : Word) : (u.setStackPair p v).sp = u.sp := by
  cases p <;> rfl

theorem CpuState.setStackPair_reg (u : CpuState) (p : StackPair) (v : Word) {r : Reg8} (h : r ∉ stackPairRegs p) :
    (u.setStackPair p v).reg r = u.reg r := by
  cases p with
  | bc => exact u.setPair_reg .bc v h
  | de => exact u.setPair_reg .de v h
  | hl => exact u.setPair_reg .hl v h
  | af =>
    cases r with
    | a => exact absurd (List.mem_singleton_self _) h
    | _ => rfl

/-- A pair without the flags takes the word as it is. -/
theorem CpuState.setStackPair_stackPair (u : CpuState) {p : StackPair} (v : Word) (h : p ≠ .af) :
    (u.setStackPair p v).stackPair p = v ∧ (u.setStackPair p v).flags = u.flags := by
  cases p with
  | bc | de | hl => exact ⟨word_of_halves v, rfl⟩
  | af => exact absurd rfl h

/-- `POP AF` takes `A` from the high byte and the flags from bits 7 to 4 of the low byte. -/
theorem CpuState.setStackPair_af (u : CpuState) (hi lo : Byte) :
    u.setStackPair .af (hi ++ lo) = { u with a := hi, flags := Flags.ofByte lo } := by
  rw [CpuState.setStackPair, high_half, low_half]

/-- A pop sets the pair to the word on top of the stack, in the registers with `sp` raised, and nothing else. -/
theorem popPair_eq (p : StackPair) (s : State) :
    ∃ t, popPair p s = .next t ∧ NothingStored s t
      ∧ t.cpu = (s.consume 1 12).popped.cpu.setStackPair p (s.read (s.cpu.sp + 1#16) ++ s.read s.cpu.sp) := by
  rw [← State.consume_stackTop s 1 12]
  exact ⟨_, rfl, NothingStored.withCore s _ 12, rfl⟩

theorem popPair_pops (p : StackPair) (s : State) :
    ∃ t, popPair p s = .next t ∧ Advanced 1 12 s t
      ∧ t.cpu.sp = s.cpu.sp + 2#16
      ∧ (p ≠ .af → t.cpu.stackPair p = s.read (s.cpu.sp + 1#16) ++ s.read s.cpu.sp ∧ t.cpu.flags = s.cpu.flags)
      ∧ (p = .af → t.cpu.a = s.read (s.cpu.sp + 1#16)
          ∧ t.cpu.flags.z = (s.read s.cpu.sp).getLsbD 7 ∧ t.cpu.flags.n = (s.read s.cpu.sp).getLsbD 6
          ∧ t.cpu.flags.h = (s.read s.cpu.sp).getLsbD 5 ∧ t.cpu.flags.c = (s.read s.cpu.sp).getLsbD 4)
      ∧ OtherRegsKept (stackPairRegs p) s t ∧ ControlKept s t ∧ NothingStored s t := by
  obtain ⟨t, run, stores, cpu⟩ := popPair_eq p s
  have passed : Passed 1 12 s t := Form.run_passed (f := .pop p) run nofun rfl rfl
  have control : ControlKept s t := Form.run_controlKept (f := .pop p) run rfl
  refine ⟨t, run, passed.advanced, ?sp, fun plain => ?pair, ?af, fun r other => ?regs, control, stores⟩
  case sp => rw [cpu, CpuState.setStackPair_sp]; rfl
  case pair =>
    rw [cpu]
    exact CpuState.setStackPair_stackPair _ _ plain
  case af =>
    rintro rfl
    rw [cpu, CpuState.setStackPair_af]
    exact ⟨rfl, rfl, rfl, rfl, rfl⟩
  case regs =>
    rw [cpu, CpuState.setStackPair_reg _ p _ other]
    exact s.consume_reg 1 12 r

/-! ## Displacement of `sp` (R154, 42_alu16.md R203) -/

/-- Adding the sign-extended byte modulo 2^16 is adding the signed number it stands for. -/
theorem addDisplacement_eq (v : Word) (b : Byte) : addDisplacement v b = BitVec.ofInt 16 (v.toNat + b.toInt) := by
  rw [BitVec.ofInt_add, BitVec.ofInt_natCast, BitVec.ofNat_toNat, BitVec.setWidth_eq]
  rfl

theorem NothingStored.setFlags {s t : State} (h : NothingStored s t) (f : Flags) : NothingStored s (t.setFlags f) :=
  have same := NothingStored.withCore t { t.cpu with flags := f } t.cycles
  ⟨h.devices.trans same.devices, h.memory.trans same.memory, fun a => (same.reads a).trans (h.reads a)⟩

/-- An instruction that sets a pair may set the flags too. -/
theorem SetsPair.setFlags {p : Pair} {v : Word} {n k : Nat} {s t : State} (h : SetsPair p v n k s t) (f : Flags) :
    SetsPair p v n k s (t.setFlags f) where
  advanced := h.advanced
  value := by rw [← h.value]; cases p <;> rfl
  sp := h.sp
  regs r other := by rw [← h.regs r other]; cases r <;> rfl
  control := h.control.setFlags f
  stores := h.stores.setFlags f

/-- Settles O18: the sum is set as a pair, then the flags. -/
theorem stackPointerDisplacement : Obligations.StackPointerDisplacement := by
  intro e s
  rw [← addDisplacement_eq]
  exact ⟨⟨rfl, _, rfl, (SetsPair.setPair s .hl _ 2 12).setFlags (addSpFlags s.cpu.sp e), rfl⟩,
    ⟨rfl, _, rfl, (SetsPair.setPair s .sp _ 2 16).setFlags (addSpFlags s.cpu.sp e), rfl⟩⟩

end Sys2Proof.Machine

namespace Sys2Proof

/-! ## `PUSH` and `POP`: in `Sys2Proof.Machine` the names of these statements are those of the operations -/

/-- Settles O15: a push is two stores; bits 3:0 of `F` are not held and stand as zeros in `AF`. -/
theorem pushPair : Obligations.PushPair := fun p s =>
  ⟨Machine.encode_push p, Machine.exec_of_run (f := .push p) (Machine.pushPair_pushes p s), rfl⟩

/-- Settles O16: a pop is one change of the registers, the pair set with `sp` raised; its parts are read off that. -/
theorem popPair : Obligations.PopPair := fun p s =>
  ⟨Machine.encode_pop p, Machine.exec_of_run (f := .pop p) (Machine.popPair_pops p s)⟩

end Sys2Proof
end

section
/-! Proofs of the family 41_alu8.md: eight-bit arithmetic and logic, `DAA`, and the complement and carry instructions. -/

namespace Sys2Proof.Machine

/-! ## Encodings (30_encoding.md R105) -/

theorem encode_alu (op : AluOp) (x : Src8) : encode (.alu op x) = aluBytes op x := by
  cases x with
  | reg r => cases op <;> cases r <;> rfl
  | _ => cases op <;> rfl

theorem encode_inc_reg (r : Reg8) : encode (.inc (.reg r)) = [0b00#2 ++ r.code ++ 0b100#3] := by
  cases r <;> rfl

theorem encode_dec_reg (r : Reg8) : encode (.dec (.reg r)) = [0b00#2 ++ r.code ++ 0b101#3] := by
  cases r <;> rfl

/-! ## Results modulo 256 -/

theorem ofNat_beq_zero (n : Nat) : (BitVec.ofNat 8 n == 0#8) = decide (n % 256 = 0) := by
  rw [beq_eq_decide, decide_eq_decide, ← BitVec.toNat_inj, BitVec.toNat_ofNat]
  rfl

theorem ofInt_beq_zero (i : Int) : (BitVec.ofInt 8 i == 0#8) = decide (i % 256 = 0) := by
  rw [beq_eq_decide, decide_eq_decide, ← BitVec.toInt_inj, BitVec.toInt_ofInt]
  exact Int.dvd_iff_bmod_eq_zero.symm.trans Int.dvd_iff_emod_eq_zero

/-- Subtraction modulo 256 is subtraction of integers, cut to a byte. -/
theorem ofInt_sub_natCast (i : Int) (n : Nat) : BitVec.ofInt 8 (i - n) = BitVec.ofInt 8 i - BitVec.ofNat 8 n := by
  rw [Int.sub_eq_add_neg, BitVec.ofInt_add, BitVec.ofInt_neg, BitVec.ofInt_natCast, BitVec.sub_eq_add_neg]

theorem ofInt_toNat_cast (v : Byte) : BitVec.ofInt 8 v.toNat = v := by
  rw [BitVec.ofInt_natCast, BitVec.ofNat_toNat, BitVec.setWidth_eq]

/-! ## The value functions in the spec's closed form (R171 to R182) -/

theorem add8_eq (a v : Byte) (c : Bool) :
    add8 a v c =
      { val := BitVec.ofNat 8 (a.toNat + v.toNat + bit c)
        flags :=
          { z := decide ((a.toNat + v.toNat + bit c) % 256 = 0), n := false
            h := decide (a.toNat % 16 + v.toNat % 16 + bit c > 0x0F)
            c := decide (a.toNat + v.toNat + bit c > 0xFF) } } := by
  rw [← ofNat_beq_zero]
  rfl

theorem sub8_eq (a v : Byte) (c : Bool) :
    sub8 a v c =
      { val := BitVec.ofInt 8 ((a.toNat : Int) - v.toNat - bit c)
        flags :=
          { z := decide (((a.toNat : Int) - v.toNat - bit c) % 256 = 0), n := true
            h := decide (a.toNat % 16 < v.toNat % 16 + bit c)
            c := decide (a.toNat < v.toNat + bit c) } } := by
  rw [← ofInt_beq_zero, ofInt_sub_natCast, ofInt_sub_natCast, ofInt_toNat_cast, BitVec.ofNat_toNat, BitVec.setWidth_eq]
  rfl

/-- Without a borrow in, the difference of two bytes is 0 modulo 256 only when they are equal. -/
theorem sub8_noBorrow (a v : Byte) :
    sub8 a v false =
      { val := BitVec.ofInt 8 ((a.toNat : Int) - v.toNat)
        flags :=
          { z := decide (a.toNat = v.toNat), n := true, h := decide (a.toNat % 16 < v.toNat % 16)
            c := decide (a.toNat < v.toNat) } } := by
  have zero : ((a.toNat : Int) - v.toNat) % 256 = 0 ↔ a.toNat = v.toNat := by
    have ha := a.isLt
    have hv := v.isLt
    omega
  have noBorrow : (a.toNat : Int) - v.toNat - bit false = a.toNat - v.toNat := Int.sub_zero _
  rw [sub8_eq, noBorrow, decide_eq_decide.2 zero]
  rfl

/-- A comparison keeps `A` and takes the flags of the subtraction. -/
theorem alu8_cp (a v : Byte) (f : Flags) :
    alu8 .cp a v f =
      { val := a
        flags :=
          { z := decide (a.toNat = v.toNat), n := true, h := decide (a.toNat % 16 < v.toNat % 16)
            c := decide (a.toNat < v.toNat) } } := by
  rw [alu8, sub8_noBorrow]

/-- The zero flag of a logic result, in whatever terms the result is 0. -/
theorem logic8_eq {val : Byte} {zero : Prop} [Decidable zero] (h : Bool) (iff : val = 0#8 ↔ zero) :
    logic8 val h = { val := val, flags := { z := decide zero, n := false, h := h, c := false } } := by
  rw [logic8, beq_eq_decide, decide_eq_decide.2 iff]

theorem inc8_eq (v : Byte) (f : Flags) :
    inc8 v f =
      { val := v + 1#8, flags := { z := decide (v = 0xFF#8), n := false, h := decide (v.toNat % 16 = 0xF), c := f.c } } := by
  have zero : v + 1#8 = 0#8 ↔ v = 0xFF#8 := BitVec.eq_sub_iff_add_eq.symm
  rw [inc8, beq_eq_decide, decide_eq_decide.2 zero]
  rfl

theorem dec8_eq (v : Byte) (f : Flags) :
    dec8 v f =
      { val := v - 1#8, flags := { z := decide (v = 0x01#8), n := true, h := decide (v.toNat % 16 = 0x0), c := f.c } } := by
  have zero : v - 1#8 = 0#8 ↔ v = 0x01#8 := BitVec.sub_eq_iff_eq_add
  rw [dec8, beq_eq_decide, decide_eq_decide.2 zero]
  rfl

/-! ## The decimal adjustment (R183) -/

/-- The adjustment of the low digit and that of the high digit, as a number. -/
def daaAdjustment (low high : Bool) : Nat := (if low then 0x06 else 0) + (if high then 0x60 else 0)

/-- The two parts of the adjustment have no bit in common, so putting them together is adding them. -/
theorem daaParts_eq (low high : Bool) :
    (if low then 0x06#8 else 0#8) ||| (if high then 0x60#8 else 0#8) = BitVec.ofNat 8 (daaAdjustment low high) := by
  cases low <;> cases high <;> rfl

theorem daa8_afterSubtraction (a : Byte) {f : Flags} (n : f.n = true) :
    daa8 a f =
      let r := BitVec.ofInt 8 ((a.toNat : Int) - daaAdjustment f.h f.c)
      { val := r, flags := { z := r == 0#8, n := true, h := false, c := f.c } } := by
  rw [daa8, if_pos n, daaParts_eq, ofInt_sub_natCast, ofInt_toNat_cast, n]

theorem daa8_afterAddition (a : Byte) {f : Flags} (n : f.n = false) :
    daa8 a f =
      let high := f.c || decide (a.toNat > 0x99)
      let r := BitVec.ofNat 8 (a.toNat + daaAdjustment (f.h || decide (a.toNat % 16 > 0x9)) high)
      { val := r, flags := { z := r == 0#8, n := false, h := false, c := high } } := by
  simp only [daa8, n, daaParts_eq, BitVec.ofNat_add, BitVec.ofNat_toNat, BitVec.setWidth_eq]
  rfl

/-- Both branches at once: after a subtraction the digits of `A` play no part. -/
theorem daa8_eq (a : Byte) (f : Flags) :
    let low := f.h || (!f.n && decide (a.toNat % 16 > 0x9))
    let high := f.c || (!f.n && decide (a.toNat > 0x99))
    let adj := daaAdjustment low high
    let r : Byte := if f.n then BitVec.ofInt 8 ((a.toNat : Int) - adj) else BitVec.ofNat 8 (a.toNat + adj)
    daa8 a f = { val := r, flags := { z := decide (r = 0#8), n := f.n, h := false, c := high } } := by
  intro low high adj r
  cases n : f.n with
  | true => simp [daa8_afterSubtraction a n, r, adj, low, high, n, beq_eq_decide]
  | false => simp [daa8_afterAddition a n, r, adj, low, high, n, beq_eq_decide]

/-! ## What the shared operations do -/

theorem Src8.length_eq (x : Src8) : Src8.length x = aluLength x := by
  cases x <;> rfl

theorem Src8.cost_eq (x : Src8) : Src8.cost x = aluCost x := by
  cases x <;> rfl

/-- A two-operand instruction puts the value and the flags of its function into `A` and `F` and does nothing else. -/
theorem alu_setsA (op : AluOp) (x : Src8) (s : State) {a : Byte} {f : Flags}
    (result : alu8 op s.cpu.a (s.src x) s.cpu.flags = { val := a, flags := f }) :
    encode (.alu op x) = aluBytes op x
      ∧ ∃ t, exec (.alu op x) s = .next t ∧ SetsA a f (aluLength x) (aluCost x) s t := by
  refine ⟨encode_alu op x, exec_of_run (f := .alu op x) ⟨_, rfl, ?_⟩⟩
  rw [State.consume_src, State.consume_a, State.consume_flags, result, ← Src8.length_eq, ← Src8.cost_eq]
  exact SetsA.setResult s { val := a, flags := f } _ _

theorem adjustA_setsA {g : Byte → Flags → Result8} {s : State} {a : Byte} {f : Flags}
    (result : g s.cpu.a s.cpu.flags = { val := a, flags := f }) : ∃ t, adjustA g s = .next t ∧ SetsA a f 1 4 s t :=
  ⟨_, rfl, result ▸ SetsA.setResult s (g s.cpu.a s.cpu.flags) 1 4⟩

/-- A change of the flags alone sets `A` to what it was. -/
theorem adjustFlags_setsA (g : Flags → Flags) (s : State) :
    ∃ t, adjustFlags g s = .next t ∧ SetsA s.cpu.a (g s.cpu.flags) 1 4 s t :=
  ⟨_, rfl, SetsA.setResult s { val := s.cpu.a, flags := g s.cpu.flags } 1 4⟩

theorem RegisterFrame.setFlags {w : List Reg8} {s t : State} (h : RegisterFrame w s t) (f : Flags) :
    RegisterFrame w s (t.setFlags f) where
  regs r other := by rw [← h.regs r other]; cases r <;> rfl
  control := h.control.setFlags f
  sp := h.sp
  stores := h.stores.setFlags f

/-- `INC r` and `DEC r` load the register with the result, then set the flags. -/
theorem incDecLoc_reg {g : Byte → Flags → Result8} {r : Reg8} {s : State} {v : Byte} {f : Flags}
    (result : g (s.cpu.reg r) s.cpu.flags = { val := v, flags := f }) :
    ∃ t, incDecLoc g (.reg r) s = .next t ∧ Advanced 1 4 s t ∧ t.cpu.reg r = v ∧ t.cpu.flags = f
      ∧ RegisterFrame [r] s t := by
  have load := Loaded.setReg s r v 1 4
  refine ⟨_, rfl, ?_⟩
  rw [State.consume_loc, State.consume_flags, State.loc, result]
  exact ⟨load.advanced, load.value, rfl, load.frame.setFlags f⟩

/-- `INC (HL)` and `DEC (HL)` store the result, then set the flags. -/
theorem incDecLoc_atHL {g : Byte → Flags → Result8} {s : State} {v : Byte} {f : Flags}
    (result : g (s.read s.cpu.hl) s.cpu.flags = { val := v, flags := f }) :
    ∃ t, incDecLoc g .atHL s = .next t ∧ Advanced 1 12 s t ∧ StoredByte s.cpu.hl v s t ∧ t.cpu.flags = f
      ∧ OtherRegsKept [] s t ∧ t.cpu.sp = s.cpu.sp ∧ ControlKept s t := by
  have store := Stored.write s s.cpu.hl v 1 12
  refine ⟨_, rfl, ?_⟩
  rw [State.consume_loc, State.consume_flags, State.loc, result]
  exact ⟨store.advanced, store.store.withCore _ _, rfl, store.cpu.regs, store.cpu.sp, store.cpu.control.setFlags f⟩

/-! ## The statements -/

/-- Settles O19: both are the addition with a carry in, which `ADD` takes as 0. -/
theorem addAndAddWithCarry : Obligations.AddAndAddWithCarry := fun x s =>
  ⟨alu_setsA .add x s (add8_eq _ _ false), alu_setsA .adc x s (add8_eq _ _ _)⟩

/-- Settles O20: all three are the subtraction with a borrow in, which `SUB` and `CP` take as 0. -/
theorem subtractAndCompare : Obligations.SubtractAndCompare := fun x s =>
  ⟨alu_setsA .sub x s (sub8_noBorrow _ _), alu_setsA .sbc x s (sub8_eq _ _ _),
    alu_setsA .cp x s (alu8_cp _ _ _)⟩

/-- Settles O21: N and C are cleared by all three; `XOR` is 0 when both operands are equal, `OR` when both are 0. -/
theorem logic : Obligations.Logic := fun x s =>
  ⟨alu_setsA .and x s (logic8_eq true Iff.rfl), alu_setsA .xor x s (logic8_eq false BitVec.xor_eq_zero_iff),
    alu_setsA .or x s (logic8_eq false BitVec.or_eq_zero_iff)⟩

/-- Settles O22: both change a location by the shared operation; every register form goes through one lemma. -/
theorem incrementAndDecrement : Obligations.IncrementAndDecrement := fun _ =>
  ⟨fun r => ⟨encode_inc_reg r, encode_dec_reg r,
      exec_of_run (f := .inc (.reg r)) (incDecLoc_reg (inc8_eq _ _)),
      exec_of_run (f := .dec (.reg r)) (incDecLoc_reg (dec8_eq _ _))⟩,
    rfl, rfl, incDecLoc_atHL (inc8_eq _ _), incDecLoc_atHL (dec8_eq _ _)⟩

/-- Settles O23: the closed form of the adjustment, put into `A` and the flags. -/
theorem decimalAdjust : Obligations.DecimalAdjust := fun _ => ⟨rfl, adjustA_setsA (daa8_eq _ _)⟩

/-- Settles O25: `CPL` changes `A` and the flags, `SCF` and `CCF` the flags alone. -/
theorem complementAndCarryFlag : Obligations.ComplementAndCarryFlag := fun s =>
  ⟨⟨rfl, adjustA_setsA (g := cpl8) rfl⟩, ⟨rfl, adjustFlags_setsA scfFlags s⟩, ⟨rfl, adjustFlags_setsA ccfFlags s⟩⟩

end Sys2Proof.Machine
end

section
/-! Proofs of the family 42_alu16.md: the sum into `HL`, and the increment and decrement of a pair. -/

namespace Sys2Proof.Machine

/-! ## Encodings (30_encoding.md R105) -/

theorem encode_addHl (p : Pair) : encode (.addHl p) = [0b00#2 ++ p.code ++ 0b1001#4] := by
  cases p <;> rfl

theorem encode_incPair (p : Pair) : encode (.incPair p) = [0b00#2 ++ p.code ++ 0b0011#4] := by
  cases p <;> rfl

theorem encode_decPair (p : Pair) : encode (.decPair p) = [0b00#2 ++ p.code ++ 0b1011#4] := by
  cases p <;> rfl

/-! ## What the shared operations do (R200, R201, R202) -/

/-- The sum is set as a pair, then the flags; both operands are read before. -/
theorem addHlPair_sets (p : Pair) (s : State) :
    ∃ t, addHlPair p s = .next t ∧ SetsPair .hl (s.cpu.hl + s.cpu.pair p) 1 8 s t
      ∧ t.cpu.flags = addHlFlags s.cpu.hl (s.cpu.pair p) s.cpu.flags := by
  rw [← State.consume_pair s 1 8 p]
  exact ⟨_, rfl, (SetsPair.setPair s .hl _ 1 8).setFlags _, rfl⟩

theorem stepPair_sets (step : Word) (p : Pair) (s : State) :
    ∃ t, stepPair step p s = .next t ∧ SetsPair p (s.cpu.pair p + step) 1 8 s t ∧ t.cpu.flags = s.cpu.flags := by
  rw [← State.consume_pair s 1 8 p]
  exact ⟨_, rfl, SetsPair.setPair s p _ 1 8, CpuState.setPair_flags _ p _⟩

/-! ## Results modulo 2^16 -/

/-- The step of `DEC rr` is -1 modulo 2^16. -/
theorem add_allOnes_eq_ofInt_pred (v : Word) : v + 0xFFFF#16 = BitVec.ofInt 16 ((v.toNat : Int) - 1) := by
  rw [Int.sub_eq_add_neg, BitVec.ofInt_add, BitVec.ofInt_natCast, BitVec.ofNat_toNat, BitVec.setWidth_eq]
  rfl

/-! ## The statement -/

/-- Settles O26: an increment and a decrement are the same operation with the steps 1 and -1; the sum and the
increment modulo 2^16 are the addition of words itself. -/
theorem pairArithmetic : Obligations.PairArithmetic := fun p s =>
  ⟨⟨encode_addHl p, exec_of_run (f := .addHl p) (addHlPair_sets p s)⟩,
    ⟨encode_incPair p, exec_of_run (f := .incPair p) (stepPair_sets 1#16 p s)⟩,
    ⟨encode_decPair p, add_allOnes_eq_ofInt_pred _ ▸ exec_of_run (f := .decPair p) (stepPair_sets 0xFFFF#16 p s)⟩⟩

end Sys2Proof.Machine
end

section
/-! Proofs of the family 43_rotate_shift_bit.md: the rotates of `A`, the prefixed rotates and shifts, and the bit
instructions. -/

namespace Sys2Proof.Machine

/-! ## Bits of a byte put together from parts -/

theorem getLsbD_append_bit0 (v : Byte) (b : BitVec 1) {i : Nat} (hi : i < 8) :
    (v.extractLsb' 0 7 ++ b : Byte).getLsbD i = if i = 0 then b.getLsbD 0 else v.getLsbD (i - 1) := by
  have parts : (v.extractLsb' 0 7 ++ b : Byte).getLsbD i = _ := BitVec.getLsbD_append
  rw [parts, BitVec.getLsbD_extractLsb']
  grind

theorem getLsbD_append_bit7 (v : Byte) (b : BitVec 1) {i : Nat} (hi : i < 8) :
    (b ++ v.extractLsb' 1 7 : Byte).getLsbD i = if i = 7 then b.getLsbD 0 else v.getLsbD (i + 1) := by
  have parts : (b ++ v.extractLsb' 1 7 : Byte).getLsbD i = _ := BitVec.getLsbD_append
  rw [parts, BitVec.getLsbD_extractLsb']
  grind

theorem getLsbD_append_nibbles (v : Byte) {i : Nat} (hi : i < 8) :
    (v.extractLsb' 0 4 ++ v.extractLsb' 4 4 : Byte).getLsbD i =
      if i < 4 then v.getLsbD (i + 4) else v.getLsbD (i - 4) := by
  have parts : (v.extractLsb' 0 4 ++ v.extractLsb' 4 4 : Byte).getLsbD i = _ := BitVec.getLsbD_append
  rw [parts, BitVec.getLsbD_extractLsb', BitVec.getLsbD_extractLsb']
  grind

/-! ## The value functions as shifts of words (R210 to R222) -/

/-- The bit shifted in stands at one end and the others move by one; `SWAP` moves all by four. The bit that leaves is
read off. -/
theorem rotValue_eq (op : RotOp) (v : Byte) (c : Bool) : rotValue op v c = rotated op v c := by
  refine Prod.ext (BitVec.eq_of_getLsbD_eq fun i hi => ?_) (by cases op <;> rfl)
  have bit7 : (0x80#8).getLsbD i = decide (7 = i) := BitVec.getLsbD_twoPow (w := 8) 7 i
  cases op with
  | rlc | rl | sla =>
    simp only [rotValue, rotated, getLsbD_append_bit0 _ _ hi, BitVec.getLsbD_rotateLeft]
    grind
  | rrc | rr | sra | srl =>
    simp only [rotValue, rotated, getLsbD_append_bit7 _ _ hi, BitVec.getLsbD_rotateRight, BitVec.getLsbD_sshiftRight]
    grind
  | swap =>
    simp only [rotValue, rotated, getLsbD_append_nibbles _ hi, BitVec.getLsbD_rotateLeft]
    grind

theorem rot8_eq (op : RotOp) (v : Byte) (f : Flags) :
    let x := rotated op v f.c
    rot8 op v f = { val := x.1, flags := { z := decide (x.1 = 0#8), n := false, h := false, c := x.2 } } := by
  simp only [rot8, rotValue_eq, beq_eq_decide]

theorem rotA8_eq (op : RotOp) (a : Byte) (f : Flags) :
    let x := rotated op a f.c
    rotA8 op a f = { val := x.1, flags := { z := false, n := false, h := false, c := x.2 } } := by
  simp only [rotA8, rotValue_eq]

/-! ## What the shared operations do -/

theorem rotateA_setsA (op : RotOp) (s : State) :
    let x := rotated op s.cpu.a s.cpu.flags.c
    ∃ t, rotateA op s = .next t ∧ SetsA x.1 { z := false, n := false, h := false, c := x.2 } 1 4 s t :=
  ⟨_, rfl, rotA8_eq op s.cpu.a s.cpu.flags ▸ SetsA.setResult s (rotA8 op s.cpu.a s.cpu.flags) 1 4⟩

/-- A rotate or shift of a register loads it with the result, then sets the flags. -/
theorem rotateLoc_reg (op : RotOp) (r : Reg8) (s : State) :
    let x := rotated op (s.cpu.reg r) s.cpu.flags.c
    ∃ t, rotateLoc op (.reg r) s = .next t ∧ Advanced 2 8 s t ∧ t.cpu.reg r = x.1
      ∧ t.cpu.flags = { z := decide (x.1 = 0#8), n := false, h := false, c := x.2 } ∧ RegisterFrame [r] s t := by
  intro x
  have load := Loaded.setReg s r x.1 2 8
  refine ⟨_, rfl, ?_⟩
  rw [State.consume_loc, State.consume_flags, State.loc, rot8_eq]
  exact ⟨load.advanced, load.value, rfl, load.frame.setFlags _⟩

/-- A rotate or shift of the byte at `HL` stores the result there, then sets the flags. -/
theorem rotateLoc_atHL (op : RotOp) (s : State) :
    let x := rotated op (s.read s.cpu.hl) s.cpu.flags.c
    ∃ t, rotateLoc op .atHL s = .next t ∧ Advanced 2 16 s t ∧ StoredByte s.cpu.hl x.1 s t
      ∧ t.cpu.flags = { z := decide (x.1 = 0#8), n := false, h := false, c := x.2 }
      ∧ OtherRegsKept [] s t ∧ t.cpu.sp = s.cpu.sp ∧ ControlKept s t := by
  intro x
  have store := Stored.write s s.cpu.hl x.1 2 16
  refine ⟨_, rfl, ?_⟩
  rw [State.consume_loc, State.consume_flags, State.loc, rot8_eq]
  exact ⟨store.advanced, store.store.withCore _ _, rfl, store.cpu.regs, store.cpu.sp, store.cpu.control.setFlags _⟩

/-- A test of a bit changes the flags alone, wherever the byte is. -/
theorem testBit_tests (b : Field3) (x : Loc8) (s : State) :
    ∃ t, testBit b x s = .next t ∧ Advanced 2 (bitCost x) s t ∧ t.cpu.flags = bitFlags b (s.loc x) s.cpu.flags
      ∧ RegisterFrame [] s t := by
  rw [← State.consume_loc s 2 (bitCost x)]
  exact ⟨_, rfl, ⟨rfl, rfl⟩, rfl, (Jumped.consume s 2 (bitCost x)).frame.setFlags _⟩

theorem changeBit_reg (f : Byte → Byte) (r : Reg8) (s : State) :
    ∃ t, changeBit f (.reg r) s = .next t ∧ Loaded r (f (s.cpu.reg r)) 2 8 s t := by
  rw [← State.consume_reg s 2 8 r]
  exact ⟨_, rfl, Loaded.setReg s r _ 2 8⟩

theorem changeBit_atHL (f : Byte → Byte) (s : State) :
    ∃ t, changeBit f .atHL s = .next t ∧ Stored s.cpu.hl (f (s.read s.cpu.hl)) 2 16 s t := by
  rw [← State.consume_read s 2 16 s.cpu.hl]
  exact ⟨_, rfl, Stored.write s s.cpu.hl _ 2 16⟩

/-! ## The statements -/

/-- Settles O27: the four are one shared operation, which clears Z whatever the result is. -/
theorem rotateAccumulator : Obligations.RotateAccumulator :=
  ⟨⟨rfl, rfl, rfl, rfl⟩,
    List.forall_mem_cons.2 ⟨rotateA_setsA .rlc,
      List.forall_mem_cons.2 ⟨rotateA_setsA .rl,
        List.forall_mem_cons.2 ⟨rotateA_setsA .rrc, List.forall_mem_singleton.2 (rotateA_setsA .rr)⟩⟩⟩⟩

/-- Settles O28: the result and the flags are those of the shifts of words, put into the register or stored at `HL`. -/
theorem rotateAndShift : Obligations.RotateAndShift := fun op s =>
  ⟨fun r => ⟨encode_rot op (.reg r), exec_of_run (f := .rot op (.reg r)) (rotateLoc_reg op r s)⟩,
    encode_rot op .atHL, exec_of_run (f := .rot op .atHL) (rotateLoc_atHL op s)⟩

/-- Settles O29: `BIT` goes by one lemma for both places; `RES` and `SET` are one shared operation, a load of the
register or a store at `HL`. -/
theorem bitOperations : Obligations.BitOperations := fun b s =>
  ⟨fun r => ⟨encode_bit b (.reg r), encode_res b (.reg r), encode_set b (.reg r),
      exec_of_run (f := .bit b (.reg r)) (testBit_tests b (.reg r) s),
      exec_of_run (f := .res b (.reg r)) (changeBit_reg (res8 b) r s),
      exec_of_run (f := .set b (.reg r)) (changeBit_reg (set8 b) r s)⟩,
    encode_bit b .atHL, encode_res b .atHL, encode_set b .atHL,
    exec_of_run (f := .bit b .atHL) (testBit_tests b .atHL s),
    exec_of_run (f := .res b .atHL) (changeBit_atHL (res8 b) s),
    exec_of_run (f := .set b .atHL) (changeBit_atHL (set8 b) s)⟩

end Sys2Proof.Machine
end

section
/-! Proofs of the family 44_control.md: jumps, calls and returns, with and without a condition. -/

namespace Sys2Proof.Machine

/-! ## Encodings (30_encoding.md R105) -/

theorem encode_jpCond (cc : Cond) (nn : Word) :
    encode (.jpCond cc nn) = [0b110#3 ++ cc.code ++ 0b010#3, nn.extractLsb' 0 8, nn.extractLsb' 8 8] := by
  cases cc <;> rfl

theorem encode_jrCond (cc : Cond) (e : Byte) : encode (.jrCond cc e) = [0b001#3 ++ cc.code ++ 0b000#3, e] := by
  cases cc <;> rfl

theorem encode_callCond (cc : Cond) (nn : Word) :
    encode (.callCond cc nn) = [0b110#3 ++ cc.code ++ 0b100#3, nn.extractLsb' 0 8, nn.extractLsb' 8 8] := by
  cases cc <;> rfl

theorem encode_retCond (cc : Cond) : encode (.retCond cc) = [0b110#3 ++ cc.code ++ 0b000#3] := by
  cases cc <;> rfl

theorem encode_rst (k : Field3) : encode (.rst k) = [0b11#2 ++ k.code ++ 0b111#3] := by
  cases k <;> rfl

/-! ## Conditions (R240) -/

/-- A conditional instruction has its effect when the condition holds, and only goes on when it does not. -/
theorem branch_next {cc : Cond} {n k m : Nat} {f : State → State} {s : State} {P : State → Prop}
    (taken : P (f (s.consume n k))) :
    ∃ t, branch cc n k m f s = .next t ∧ (if s.cpu.flags.test cc then P t else Jumped (s.after n) m s t) := by
  unfold branch
  split
  · exact ⟨_, rfl, taken⟩
  · exact ⟨_, rfl, Jumped.consume s n m⟩

/-! ## Jumps (R241 to R245) -/

/-- The displacement is added to the address after the instruction. -/
theorem Jumped.jumpRelative (s : State) (e : Byte) (n k : Nat) :
    Jumped (BitVec.ofInt 16 ((s.after n).toNat + e.toInt)) k s ((s.consume n k).jumpRelative e) := by
  rw [← addDisplacement_eq]
  exact Jumped.jump s _ n k

/-- Settles O30: every form is a jump, to its operand, to `HL` or by the displacement; a condition chooses between it
and going on. -/
theorem jumps : Obligations.Jumps := fun cc nn e s =>
  ⟨⟨rfl, exec_of_run (f := .jp nn) ⟨_, rfl, Jumped.jump s nn 3 16⟩⟩,
    ⟨encode_jpCond cc nn, exec_of_run (f := .jpCond cc nn)
      (branch_next (f := fun t => t.jump nn) (Jumped.jump s nn 3 16))⟩,
    ⟨rfl, exec_of_run (f := .jpHl) ⟨_, rfl, Jumped.jump s s.cpu.hl 1 4⟩⟩,
    ⟨rfl, exec_of_run (f := .jr e) ⟨_, rfl, Jumped.jumpRelative s e 2 12⟩⟩,
    ⟨encode_jrCond cc e, exec_of_run (f := .jrCond cc e)
      (branch_next (f := fun t => t.jumpRelative e) (Jumped.jumpRelative s e 2 12))⟩⟩

/-! ## Calls (R246, R247, R253) -/

theorem Pushed.jump {v : Word} {s t : State} (h : Pushed v s t) (target : Word) : Pushed v s (t.jump target) where
  stores := by
    obtain ⟨m, high, low⟩ := h.stores
    exact ⟨m, high, low.withCore { t.cpu with pc := target } t.cycles⟩
  sp := h.sp
  regs r other := by rw [← h.regs r other]; cases r <;> rfl
  flags := h.flags
  control := h.control.jump target

/-- A call pushes the address after its bytes and goes to the target. -/
theorem call_pushes (s : State) (target : Word) (n k : Nat) :
    let t := (s.consume n k).call target
    t.cpu.pc = target ∧ t.cycles = k ∧ Pushed (s.after n) s t :=
  ⟨rfl, State.call_cycles _ _, (Pushed.push16 s (s.after n) n k).jump target⟩

theorem restart_pushes (t : Field3) (s : State) :
    ∃ u, restart t s = .next u ∧ u.cpu.pc = BitVec.ofNat 16 (8 * t.toNat) ∧ u.cycles = 16
      ∧ Pushed (s.after 1) s u := by
  rw [restart, Nat.mul_comm]
  exact ⟨_, rfl, call_pushes s _ 1 16⟩

/-- Settles O31: all three are the call of a subroutine; `RST t` calls the address `8 * t`. -/
theorem calls : Obligations.Calls := fun cc k nn s =>
  ⟨⟨rfl, exec_of_run (f := .call nn) ⟨_, rfl, call_pushes s nn 3 24⟩⟩,
    ⟨encode_callCond cc nn, exec_of_run (f := .callCond cc nn)
      (branch_next (f := fun t => t.call nn) (call_pushes s nn 3 24))⟩,
    ⟨encode_rst k, exec_of_run (f := .rst k) (restart_pushes k s)⟩⟩

/-! ## Returns (R248, R249, R250) -/

/-- `pc` is popped, low byte first, which raises `sp` by 2. It says nothing of the control bits and the cycles. -/
def Returned (s t : State) : Prop :=
  t.cpu.pc = s.read (s.cpu.sp + 1#16) ++ s.read s.cpu.sp ∧ t.cpu.sp = s.cpu.sp + 2#16
    ∧ OtherRegsKept [] s t ∧ t.cpu.flags = s.cpu.flags ∧ NothingStored s t

theorem ret_returned (s : State) (n k : Nat) : Returned s (s.consume n k).ret :=
  ⟨s.consume_stackTop n k, rfl, fun r _ => by cases r <;> rfl, rfl,
    NothingStored.withCore s (s.consume n k).ret.cpu k⟩

theorem returnFromInterrupt_returned (s : State) (n k : Nat) : Returned s (s.consume n k).returnFromInterrupt :=
  ⟨s.consume_stackTop n k, rfl, fun r _ => by cases r <;> rfl, rfl,
    NothingStored.withCore s (s.consume n k).returnFromInterrupt.cpu k⟩

theorem returnFromInterrupt_controlKept (s : State) (n k : Nat) :
    ControlKept { s with cpu := { s.cpu with ime := true } } (s.consume n k).returnFromInterrupt :=
  ⟨rfl, rfl, rfl, rfl, rfl, rfl⟩

/-! ## The step of a running machine (60_exceptions.md R300, R308) -/

theorem State.delayedEnable_of_not_pending {s : State} (h : s.cpu.imePending = false) : s.delayedEnable = s :=
  if_neg (h ▸ Bool.false_ne_true)

/-- A running machine executes the instruction it fetches; the interrupt check follows unless that raised the fault. -/
theorem State.cpuStep_running {s t : State} (running : s.running)
    (next : exec s.delayedEnable.fetched s.delayedEnable = .next t) :
    s.cpuStep = .next (if t.cpu.fault.isSome then t else t.interruptCheck) := by
  obtain ⟨-, notStopped, notHalted⟩ := running
  obtain ⟨u, hu⟩ := s.cpuStep_next
  rcases State.cpuStep_cases hu with ⟨stopped, -⟩ | ⟨-, halted, -⟩ | ⟨-, -, v, hv, rfl⟩
  · exact absurd stopped (notStopped ▸ Bool.false_ne_true)
  · exact absurd halted (notHalted ▸ Bool.false_ne_true)
  · cases next.symm.trans hv
    exact hu

theorem step_running {s t : State} (running : s.running)
    (next : exec s.delayedEnable.fetched s.delayedEnable = .next t) (noFault : t.cpu.fault = none) :
    step s = .next t.interruptCheck.advance := by
  have checked : s.cpuStep = .next t.interruptCheck := by
    rw [State.cpuStep_running running next, noFault]
    rfl
  exact step_eq running.1 checked

/-- `RETI` raises no fault, so the interrupt check of its step sees the `IME` it has set. -/
theorem step_reti {s : State} (running : s.running) (notPending : s.cpu.imePending = false)
    (fetched : s.fetched = .reti) :
    step s = .next (s.consume 1 16).returnFromInterrupt.interruptCheck.advance := by
  have next : exec s.delayedEnable.fetched s.delayedEnable = .next (s.consume 1 16).returnFromInterrupt := by
    rw [State.delayedEnable_of_not_pending notPending, fetched]
    exact exec_instr .reti s
  exact step_running running next running.1

/-- Settles O32: every form is the return from a subroutine; `RETI` sets `IME` besides, before the interrupt check of
its step. -/
theorem returns : Obligations.Returns := fun cc s =>
  ⟨⟨rfl, exec_of_run (f := .ret) ⟨_, rfl, ret_returned s 1 16, rfl, (ControlKept.consume s 1 16).ret⟩⟩,
    ⟨encode_retCond cc, exec_of_run (f := .retCond cc)
      (branch_next ⟨ret_returned s 1 20, rfl, (ControlKept.consume s 1 20).ret⟩)⟩,
    ⟨rfl, exec_of_run (f := .reti) ⟨_, rfl, returnFromInterrupt_returned s 1 16, rfl,
      returnFromInterrupt_controlKept s 1 16, step_reti⟩⟩⟩

end Sys2Proof.Machine
end

section
/-! Proofs of the family 45_system.md: `NOP`, `STOP`, `HALT`, `DI`, `EI` and the unassigned bytes, and the steps that
fetch the last two. -/

namespace Sys2Proof.Machine

/-! ## The fetch (60_exceptions.md R300, R301) -/

/-- The first byte of the fetched instruction stands at `pc`, also under `halt_bug`. -/
theorem State.fetched_first (s : State) : ∃ b1 b2, s.fetched = decodeWindow (s.read s.cpu.pc) b1 b2 := ⟨_, _, rfl⟩

@[simp] theorem State.delayedEnable_fetched (s : State) : s.delayedEnable.fetched = s.fetched := by
  simp only [State.fetched, State.fetchWindow, State.delayedEnable_read, State.delayedEnable_pc,
    State.delayedEnable_haltBug]

theorem State.fetched_ei {s : State} (byte : s.read s.cpu.pc = 0xFB#8) : s.fetched = .ei := by
  obtain ⟨b1, b2, fetched⟩ := s.fetched_first
  rw [fetched, byte]
  rfl

/-- An unassigned byte decodes to the fault term, whatever follows it (30_encoding.md R113). -/
theorem decodeWindow_unassigned {op : Byte} (unassigned : op ∈ unassignedBytes) (b1 b2 : Byte) :
    decodeWindow op b1 b2 = .illegal op := by
  have outline := (decodeWindow_outline op b1 b2).trans (decodeWindow_zero_outline op)
  exact Instr.unassignedByte_eq_some.1 ((congrArg Prod.snd outline).trans (if_pos unassigned))

theorem State.fetched_unassigned {s : State} (unassigned : s.read s.cpu.pc ∈ unassignedBytes) :
    s.fetched = .illegal (s.read s.cpu.pc) := by
  obtain ⟨b1, b2, fetched⟩ := s.fetched_first
  rw [fetched, decodeWindow_unassigned unassigned]

/-! ## The step (R300, 70_reset_and_hazards.md R410) -/

theorem State.delayedEnable_of_pending {s : State} (h : s.cpu.imePending = true) :
    s.delayedEnable = { s with cpu := { s.cpu with ime := true, imePending := false } } := if_pos h

/-- The step of a running machine, with and without the fault. -/
theorem step_of_exec {s t : State} (running : s.running) (next : exec s.fetched s.delayedEnable = .next t) :
    step s = .next (if t.cpu.fault.isSome then t.advance else t.interruptCheck.advance) := by
  rw [← State.delayedEnable_fetched] at next
  rw [step_eq running.1 (State.cpuStep_running running next), apply_ite State.advance]

theorem State.interruptCheck_of_ime_clear {s : State} (h : s.cpu.ime = false) : s.interruptCheck = s :=
  if_neg (h ▸ Bool.false_ne_true)

/-- The devices leave the registers and the reported cost alone. -/
theorem State.advance_core (s : State) : s.advance.cpu = s.cpu ∧ s.advance.cycles = s.cycles := by
  unfold State.advance
  dsimp only
  obtain ⟨_, _, _, _, -, serial⟩ := ((s.timerTick s.cycles).ppuTick s.cycles).serialTick_move s.cycles
  obtain ⟨_, _, _, _, _, _, ppu⟩ := (s.timerTick s.cycles).ppuTick_move s.cycles
  obtain ⟨_, _, _, _, timer⟩ := s.timerTick_move s.cycles
  rw [serial, ppu, timer]
  exact ⟨rfl, rfl⟩

/-! ### No cycles, no advance (R316, R321, R353) -/

/-- The prescaler is below the period while the timer counts, so no increment is due. -/
theorem State.timerTick_zero {s : State} (ok : s.timer.ok) : s.timerTick 0 = s := by
  unfold State.timerTick
  simp only [BitVec.add_zero, Nat.add_zero]
  split
  · rename_i counts
    have below : s.timer.timaSub < s.timer.period := ok.2 counts
    rw [Nat.mod_eq_of_lt below, Nat.div_eq_of_lt below]
    rfl
  · rfl

theorem State.serialTick_zero (s : State) : s.serialTick 0 = s := by
  unfold State.serialTick
  split
  · rename_i running
    exact if_neg (Nat.not_le_of_lt running)
  · rfl

theorem State.advance_of_no_cycles {s : State} (ok : s.timer.ok) (none : s.cycles = 0) : s.advance = s := by
  unfold State.advance
  dsimp only
  rw [none, State.timerTick_zero ok, State.ppuTick, State.serialTick_zero]

/-! ## `EI` (R264) -/

/-- The step that executes `EI` with `IME` and the flag clear: its interrupt check still sees `IME` clear. -/
theorem step_ei {s : State} (running : s.running) (byte : s.read s.cpu.pc = 0xFB#8) (off : s.cpu.ime = false)
    (notPending : s.cpu.imePending = false) :
    step s = .next ((s.consume 1 4).mapCpu fun u => { u with imePending := true }).advance := by
  have next : exec s.delayedEnable.fetched s.delayedEnable =
      .next ((s.consume 1 4).mapCpu fun u => { u with imePending := true }) := by
    rw [State.delayedEnable_of_not_pending notPending, State.fetched_ei byte]
    exact exec_instr .ei s
  rw [step_running running next running.1, State.interruptCheck_of_ime_clear]
  exact off

/-- Settles O34: `EI` sets the flag after the delayed effect of its own step was due, so `IME` is set by the next step,
which then is the step of a running machine with `IME` set. -/
theorem enableInterruptsIsDelayed : Obligations.EnableInterruptsIsDelayed := by
  refine ⟨rfl, exec_instr .ei, fun s running byte off notPending => ?_, fun s running pending => ?_⟩
  · obtain ⟨cpu, cycles⟩ := ((s.consume 1 4).mapCpu fun u => { u with imePending := true }).advance_core
    refine ⟨_, step_ei running byte off notPending, ?_⟩
    rw [cpu, cycles]
    exact ⟨off, rfl, rfl, rfl, rfl⟩
  · obtain ⟨t, next, -⟩ := exec_effects s.fetched s.delayedEnable
    have stepped := step_of_exec running next
    rw [State.delayedEnable_of_pending pending] at next
    exact ⟨t, next, stepped⟩

/-! ## Unassigned bytes (R268) -/

/-- Settles O8: the byte is fetched as the fault term, whose step ends without the interrupt check and with 0 cycles for
the devices. -/
theorem unassignedByteRaisesTheFault : Obligations.UnassignedByteRaisesTheFault := by
  refine fun op s unassigned => ⟨rfl, exec_instr (.illegal op) s, fun running ok byte => ?_⟩
  have next : exec s.fetched s.delayedEnable = .next (s.delayedEnable.raiseUnsupported op) := by
    rw [State.fetched_unassigned (byte ▸ unassigned), byte]
    exact exec_instr (.illegal op) _
  have quiet : (s.delayedEnable.raiseUnsupported op).advance = s.delayedEnable.raiseUnsupported op :=
    State.advance_of_no_cycles (s.delayedEnable_timer ▸ ok) rfl
  rw [step_of_exec running next, quiet, ← s.delayedEnable_pc]
  rfl

/-! ## `NOP`, `STOP`, `DI` and `HALT` (R260 to R263) -/

/-- Settles O33: `NOP` goes on to the next instruction, and the other two are their meanings written out. -/
theorem nopStopDisable : Obligations.NopStopDisable := fun n s =>
  ⟨⟨rfl, exec_of_run (f := .nop) ⟨_, rfl, Jumped.consume s 1 4⟩⟩, ⟨rfl, exec_instr (.stop n) s⟩, ⟨rfl, exec_instr .di s⟩⟩

/-- `HALT` halts when `IME` is set or nothing enabled is pending, and sets `halt_bug` otherwise. -/
theorem execHalt_eq (s : State) :
    execHalt s = .next (if s.cpu.ime = true ∨ s.pendingEnabled = 0#5 then
      (s.consume 1 4).mapCpu fun u => { u with halted := true }
    else (s.consume 1 4).mapCpu fun u => { u with haltBug := true }) := by
  have pending : (s.consume 1 4).pendingEnabled = s.pendingEnabled := rfl
  unfold execHalt
  dsimp only
  rw [pending, State.consume_ime]
  by_cases on : s.cpu.ime = true
  · rw [if_pos on, if_pos (.inl on)]
  · by_cases none : s.pendingEnabled = 0#5
    · rw [if_neg on, if_pos none, if_pos (.inr none)]
    · rw [if_neg on, if_neg none, if_neg (not_or.2 ⟨on, none⟩)]

/-- Settles O35: the two tests of `HALT` are one disjunction. -/
theorem halt : Obligations.Halt := ⟨rfl, fun s => (exec_instr .halt s).trans (execHalt_eq s)⟩

end Sys2Proof.Machine
end

section
/-! Proofs of the family 60_exceptions.md: the CPU step of a running, halted, stopped and faulted machine, the interrupt
check, the timer, the serial port and the joypad interrupt. -/

namespace Sys2Proof.Machine

/-! ## The fetch (R300, R301) -/

/-- What the decoder answers is what it reads from the bytes at hand. -/
theorem decode_eq_window {b0 : Byte} {rest left : List Byte} {i : Instr} (h : decode (b0 :: rest) = .ok (i, left)) :
    i = decodeWindow b0 (rest.getD 0 0) (rest.getD 1 0) := by
  unfold decode at h
  dsimp only at h
  split at h
  · cases h
  · cases h
    rfl

theorem wellFormed_of_unassigned {i : Instr} (h : ∀ op, i = .illegal op → op ∈ unassignedBytes) : WellFormed i := by
  cases i with
  | illegal op => exact List.contains_iff_mem.2 (h op rfl)
  | _ => rfl

/-- The decoder answers the fault term for the unassigned bytes alone (30_encoding.md R113). -/
theorem decodeWindow_wellFormed (b0 b1 b2 : Byte) : WellFormed (decodeWindow b0 b1 b2) := by
  refine wellFormed_of_unassigned fun op same => ?_
  have outline := (decodeWindow_outline b0 b1 b2).trans (decodeWindow_zero_outline b0)
  have byte : (byteOutline b0).2 = some op :=
    (congrArg Prod.snd outline).symm.trans (Instr.unassignedByte_eq_some.2 same)
  obtain ⟨listed, same⟩ := Option.ite_none_right_eq_some.1 byte
  exact Option.some.inj same ▸ listed

theorem State.fetched_plain {s : State} (h : s.cpu.haltBug = false) :
    s.fetched = decodeWindow (s.read s.cpu.pc) (s.read (s.cpu.pc + 1#16)) (s.read (s.cpu.pc + 2#16)) := by
  have next : s.cpu.pc + 1#16 + 1#16 = s.cpu.pc + 2#16 := BitVec.add_assoc _ _ _
  rw [State.fetched, State.fetchWindow, h, if_neg Bool.false_ne_true, next]

theorem State.fetched_haltBug {s : State} (h : s.cpu.haltBug = true) :
    s.fetched = decodeWindow (s.read s.cpu.pc) (s.read s.cpu.pc) (s.read (s.cpu.pc + 1#16)) := by
  rw [State.fetched, State.fetchWindow, h, if_pos rfl]

/-! ## The running machine (R300, R302) -/

/-- A running machine executes what it fetches, whatever that is. -/
theorem step_runs_fetched {s : State} (running : s.running) :
    ∃ t, exec s.fetched s.delayedEnable = .next t
      ∧ step s = .next (if t.cpu.fault.isSome then t.advance else t.interruptCheck.advance) := by
  obtain ⟨t, next, -⟩ := exec_effects s.fetched s.delayedEnable
  exact ⟨t, next, step_of_exec running next⟩

/-- Settles O4: the step runs the fetched instruction, which is the one the three bytes decode to. -/
theorem stepRunsTheDecodedInstruction : Obligations.StepRunsTheDecodedInstruction := by
  intro s i rest running noBug decoded
  have fetched : i = s.fetched := (decode_eq_window decoded).trans (State.fetched_plain noBug).symm
  subst fetched
  exact ⟨decodeWindow_wellFormed _ _ _, step_runs_fetched running⟩

/-- Settles O5: the repeated byte is in the fetch window; the other effects of `halt_bug` are those of every instruction
(O9, O36). -/
theorem haltBugReadsTheByteTwice : Obligations.HaltBugReadsTheByteTwice := by
  intro s i rest running bug decoded
  have fetched : i = s.fetched := (decode_eq_window decoded).trans (State.fetched_haltBug bug).symm
  subst fetched
  obtain ⟨t, next, stepped⟩ := step_runs_fetched running
  obtain ⟨-, -, -, onlyHalt, -, -⟩ := onlySystemInstructionsChangeControl _ _ t next
  refine ⟨t, next, stepped, fun notHalt => ?_, fun assigned unconditional stays => ?_⟩
  · exact Bool.eq_false_iff.2 fun set => notHalt (onlyHalt set).1
  · obtain ⟨t', next', -, -, -, pc⟩ := everyInstructionRuns s.fetched s.delayedEnable assigned
    cases next.symm.trans next'
    rw [pc stays (unconditional ▸ rfl), s.delayedEnable_pc, s.delayedEnable_haltBug, bug, if_pos rfl]

/-! ## The interrupt check (R306, R307) -/

theorem State.selected_eq_none {s : State} (h : s.pendingEnabled = 0#5) : s.selected = none := by
  rw [State.selected, h]
  decide

theorem State.interruptCheck_of_nothing_pending {s : State} (h : s.pendingEnabled = 0#5) : s.interruptCheck = s := by
  unfold State.interruptCheck
  rw [State.selected_eq_none h]
  exact ite_self s

theorem State.interruptCheck_of_selected {s : State} {n : IntSource} (on : s.cpu.ime = true) (h : s.selected = some n) :
    s.interruptCheck = { s.takeInterrupt n with cycles := (s.takeInterrupt n).cycles + 20 } := by
  rw [State.interruptCheck, if_pos on, h]

/-- Settles O10: an assigned instruction raises no fault (O9), and a check that dispatches nothing and the devices leave
`pc` and the cost alone. -/
theorem stepAdvancesByLengthAndCost : Obligations.StepAdvancesByLengthAndCost := by
  intro s t running assigned next quiet
  obtain ⟨t', next', cycles, fault, -, pc⟩ := everyInstructionRuns s.fetched s.delayedEnable assigned
  cases next.symm.trans next'
  have noDispatch : t.interruptCheck = t := by
    rcases quiet with off | nothing
    · exact State.interruptCheck_of_ime_clear off
    · exact State.interruptCheck_of_nothing_pending nothing
  have noFault : t.cpu.fault = none := fault.trans (s.delayedEnable_fault.trans running.1)
  have stepped : step s = .next t.advance := by
    rw [step_running running (s.delayedEnable_fetched ▸ next) noFault, noDispatch]
  obtain ⟨cpu, cost⟩ := t.advance_core
  rw [s.delayedEnable_flags] at cycles pc
  rw [s.delayedEnable_pc, s.delayedEnable_haltBug] at pc
  exact ⟨t.advance, stepped, cost.trans cycles, cpu ▸ pc⟩

theorem State.pendingEnabled_getLsbD (s : State) {k : Nat} (h : k < 5) :
    s.pendingEnabled.getLsbD k = (s.intr.pendingFlags.getLsbD k && s.intr.enableMask.getLsbD k) := by
  rw [State.pendingEnabled, BitVec.getLsbD_and, BitVec.getLsbD_extractLsb', decide_eq_true h, Nat.zero_add,
    Bool.true_and]

theorem IntSource.exists_bit {k : Nat} (h : k < 5) : ∃ n : IntSource, n.bit = k :=
  match k, h with
  | 0, _ => ⟨.vblank, rfl⟩
  | 1, _ => ⟨.lcdStatus, rfl⟩
  | 2, _ => ⟨.timer, rfl⟩
  | 3, _ => ⟨.serial, rfl⟩
  | 4, _ => ⟨.joypad, rfl⟩

theorem IntSource.vector_eq (n : IntSource) : n.vector = BitVec.ofNat 16 (0x0040 + 8 * n.bit) := by
  cases n <;> rfl

/-- The sources are listed by their bits. -/
theorem IntSource.all_split (n : IntSource) :
    ∃ lower higher, IntSource.all = lower ++ n :: higher ∧ ∀ m ∈ lower, m.bit < n.bit :=
  ⟨IntSource.all.take n.bit, IntSource.all.drop (n.bit + 1), by cases n <;> decide⟩

/-- The sources are searched in the order of their bits, so the lowest one is found. -/
theorem State.selected_of_lowest {s : State} {n : IntSource} (set : s.pendingEnabled.getLsbD n.bit = true)
    (lowest : ∀ j, j < n.bit → s.pendingEnabled.getLsbD j = false) : s.selected = some n := by
  obtain ⟨lower, higher, split, below⟩ := n.all_split
  refine List.find?_eq_some_iff_append.2 ⟨set, lower, higher, split, fun m listed => ?_⟩
  rw [lowest m.bit (below m listed), Bool.not_false]

theorem State.exists_selected {s : State} (h : s.pendingEnabled ≠ 0#5) : ∃ n, s.selected = some n := by
  have found : ∀ p : BitVec 5, p ≠ 0#5 → (IntSource.all.find? fun n => p.getLsbD n.bit).isSome = true := by decide
  exact Option.isSome_iff_exists.1 (found s.pendingEnabled h)

/-- The request of a source is cleared (R306). -/
def State.acknowledged (s : State) (n : IntSource) : State :=
  { s with intr := { s.intr with pendingFlags := s.intr.pendingFlags &&& ~~~n.mask } }

/-- A push stores by `sp` alone; the other registers and the cycles pass through it. -/
theorem State.withCore_push16 (s : State) (u : CpuState) (k : Nat) (v : Word) :
    (s.withCore u k).push16 v =
      ((s.write (u.sp - 1#16) (v.extractLsb' 8 8)).write (u.sp - 2#16) (v.extractLsb' 0 8)).withCore
        { u with sp := u.sp - 2#16 } k := by
  have sp : (s.withCore u k).cpu.sp = u.sp := rfl
  rw [State.push16_eq, sp, State.withCore_write, State.withCore_write]
  rfl

/-- The registers at trap entry (R306). -/
def CpuState.serving (u : CpuState) (n : IntSource) : CpuState :=
  { u with halted := false, ime := false, sp := u.sp - 2#16, pc := n.vector }

/-- Trap entry: the request is cleared, `pc` is stored, and the registers move. -/
theorem State.withCore_takeInterrupt (s : State) (u : CpuState) (k : Nat) (n : IntSource) :
    (s.withCore u k).takeInterrupt n =
      (((s.acknowledged n).write (u.sp - 1#16) (u.pc.extractLsb' 8 8)).write (u.sp - 2#16) (u.pc.extractLsb' 0 8)).withCore
        (u.serving n) k :=
  congrArg (·.jump n.vector) ((s.acknowledged n).withCore_push16 { u with halted := false, ime := false } k u.pc)

theorem State.takeInterrupt_eq (s : State) (n : IntSource) :
    s.takeInterrupt n =
      (((s.acknowledged n).write (s.cpu.sp - 1#16) (s.cpu.pc.extractLsb' 8 8)).write (s.cpu.sp - 2#16)
        (s.cpu.pc.extractLsb' 0 8)).withCore (s.cpu.serving n) s.cycles :=
  s.withCore_takeInterrupt s.cpu s.cycles n

/-- Trap entry is a push of `pc` in the state whose request is cleared, but that it keeps `halt_bug`. -/
theorem State.takeInterrupt_pushed (s : State) (n : IntSource) (k : Nat) :
    Pushed s.cpu.pc
      ((s.acknowledged n).withCore { s.cpu with ime := false, halted := false, haltBug := false } s.cycles)
      ((s.takeInterrupt n).withCore { (s.takeInterrupt n).cpu with haltBug := false } k) := by
  let s0 := (s.acknowledged n).withCore { s.cpu with ime := false, halted := false, haltBug := false } s.cycles
  have same : ((s0.consume 0 k).push16 s.cpu.pc).jump n.vector =
      (s.takeInterrupt n).withCore { (s.takeInterrupt n).cpu with haltBug := false } k := by
    rw [State.takeInterrupt_eq]
    exact congrArg (·.jump n.vector) ((s.acknowledged n).withCore_push16 (s0.consume 0 k).cpu k s.cpu.pc)
  exact same ▸ (Pushed.push16 s0 s.cpu.pc 0 k).jump n.vector

/-- Settles O37: the selected source is the lowest bit that is pending and enabled, and taking it is trap entry at 20
cycles more. -/
theorem interruptDispatch : Obligations.InterruptDispatch := by
  intro s pending
  have bits {k : Nat} (h : k < 5) : s.pendingEnabled.getLsbD k = pending k := s.pendingEnabled_getLsbD h
  refine ⟨State.interruptCheck_of_ime_clear, fun nothing => ?_, fun k on h set lowest => ?_⟩
  · refine State.interruptCheck_of_nothing_pending (BitVec.eq_of_getLsbD_eq fun k h => ?_)
    rw [bits h, nothing k h, BitVec.getLsbD_zero]
  · obtain ⟨n, rfl⟩ := IntSource.exists_bit h
    have selected : s.selected = some n :=
      State.selected_of_lowest ((bits h).trans set) fun j lower => (bits (lower.trans h)).trans (lowest j lower)
    dsimp only
    rw [State.interruptCheck_of_selected on selected]
    refine ⟨s.takeInterrupt_pushed n _, ?_⟩
    rw [State.takeInterrupt_eq]
    exact ⟨rfl, n.vector_eq, rfl⟩

/-! ## The halted machine (R311) -/

theorem step_halted {s : State} (noFault : s.cpu.fault = none) (notStopped : s.cpu.stopped = false)
    (halted : s.cpu.halted = true) : step s = .next s.delayedEnable.haltedIdle.interruptCheck.advance := by
  obtain ⟨t, next⟩ := s.cpuStep_next
  rcases State.cpuStep_cases next with ⟨stopped, -⟩ | ⟨-, -, idle⟩ | ⟨-, notHalted, -⟩
  · exact absurd (stopped.symm.trans notStopped) nofun
  · rw [step_eq noFault next, idle]
  · exact absurd (notHalted.symm.trans halted) nofun

@[simp] theorem State.delayedEnable_pendingEnabled (s : State) : s.delayedEnable.pendingEnabled = s.pendingEnabled := by
  rw [State.pendingEnabled, s.delayedEnable_intr, ← State.pendingEnabled]

@[simp] theorem State.delayedEnable_selected (s : State) : s.delayedEnable.selected = s.selected := by
  rw [State.selected, s.delayedEnable_pendingEnabled, ← State.selected]

theorem State.haltedIdle_asleep {s : State} (h : s.pendingEnabled = 0#5) : s.haltedIdle = { s with cycles := 4 } := by
  rw [State.haltedIdle, if_pos h]

theorem State.haltedIdle_woken {s : State} (h : s.pendingEnabled ≠ 0#5) :
    s.haltedIdle = { s with cpu := { s.cpu with halted := false }, cycles := 4 } := by
  rw [State.haltedIdle, if_neg h]

/-- A dispatch clears `halted` itself, so waking up before it leaves no trace but the cost. -/
theorem State.haltedIdle_takeInterrupt (s : State) (n : IntSource) :
    s.haltedIdle.takeInterrupt n = { s.takeInterrupt n with cycles := 4 } := by
  rw [State.takeInterrupt_eq s]
  exact s.withCore_takeInterrupt s.haltedIdle.cpu 4 n

/-- Settles O6: the three cases of the interrupt check after the idle cycles. -/
theorem haltedStep : Obligations.HaltedStep := by
  intro s noFault notStopped halted
  rw [step_halted noFault notStopped halted]
  refine ⟨fun nothing => ?_, fun woken off notPending => ?_, fun woken on => ?_⟩
  · rw [← s.delayedEnable_pendingEnabled] at nothing
    rw [State.interruptCheck_of_nothing_pending (s := s.delayedEnable.haltedIdle) nothing,
      State.haltedIdle_asleep nothing]
  · rw [State.delayedEnable_of_not_pending notPending, State.interruptCheck_of_ime_clear (s := s.haltedIdle) off,
      State.haltedIdle_woken woken]
  · obtain ⟨n, selected⟩ := State.exists_selected woken
    have ime : s.delayedEnable.haltedIdle.cpu.ime = true := s.delayedEnable_ime.trans (Bool.or_eq_true_iff.2 on)
    have same : s.delayedEnable.haltedIdle.selected = some n := s.delayedEnable_selected.trans selected
    refine ⟨n, selected, ?_⟩
    rw [State.interruptCheck_of_selected ime same, State.haltedIdle_takeInterrupt]

/-! ## The stopped and the faulted machine (R303, R315) -/

/-- Settles O7: a stopped step reports no cycles, so no device advances; a set fault is answered before any step. -/
theorem stoppedAndFaultedMachines : Obligations.StoppedAndFaultedMachines := by
  refine ⟨fun s stopped ok => ?_, fun s u fault => ?_⟩
  · have idle : s.cpuStep = .next { s with cycles := 0 } := if_pos stopped.2
    have quiet : State.advance { s with cycles := 0 } = { s with cycles := 0 } := State.advance_of_no_cycles ok rfl
    rw [step_eq stopped.1 idle, quiet]
  · rw [step, State.machineStep, fault]

/-! ## The serial port (R320, R321) -/

/-- Both bits together start a transfer. -/
theorem SerialState.writeSc_eq (p : SerialState) (v : Byte) :
    p.writeSc v =
      { sb := p.sb, scStart := v.getLsbD 7, scClock := v.getLsbD 0
        serialCount := if v.getLsbD 7 = true ∧ v.getLsbD 0 = true then 4096 else 0
        serialOut := if v.getLsbD 7 = true ∧ v.getLsbD 0 = true then p.serialOut ++ [p.sb] else p.serialOut } := by
  unfold SerialState.writeSc
  cases v.getLsbD 7 <;> cases v.getLsbD 0 <;> rfl

theorem State.serialTick_idle {s : State} (h : s.serial.serialCount = 0) (n : Nat) : s.serialTick n = s :=
  if_neg (h ▸ Nat.lt_irrefl 0)

theorem State.serialTick_running {s : State} {n : Nat} (running : 0 < s.serial.serialCount)
    (more : n < s.serial.serialCount) :
    s.serialTick n = { s with serial := { s.serial with serialCount := s.serial.serialCount - n } } :=
  (if_pos running).trans (if_neg (Nat.not_le_of_lt more))

theorem State.serialTick_complete {s : State} {n : Nat} (running : 0 < s.serial.serialCount)
    (last : s.serial.serialCount ≤ n) :
    s.serialTick n =
      State.request { s with serial := { s.serial with serialCount := 0, sb := 0xFF#8, scStart := false } } .serial :=
  (if_pos running).trans (if_pos last)

/-- Settles O49: a write to `SC` is the register's own, and the tick has the three cases. -/
theorem serialTransfer : Obligations.SerialTransfer := by
  refine ⟨fun s v => ?_, fun s n =>
    ⟨fun idle => State.serialTick_idle idle n, State.serialTick_running, State.serialTick_complete⟩⟩
  have written : s.write 0xFF02#16 v = { s with serial := s.serial.writeSc v } := s.write_ioAddr .sc v
  rw [written]
  exact ⟨s.serial.writeSc_eq v, rfl⟩

/-! ## The joypad (R322, R323) -/

theorem Buttons.get_set (b : Buttons) (key k : Button) (pressed : Bool) :
    (b.set key pressed).get k = if k = key then pressed else b.get k := by
  cases key <;> cases k <;> rfl

/-- Settles O50: a press that raises the interrupt, and every other move, which changes the button alone. -/
theorem joypadInterrupt : Obligations.JoypadInterrupt := by
  have p1 (s : State) (v : Byte) : s.write 0xFF00#16 v = s.ioWrite .p1 v := s.write_ioAddr .p1 v
  refine ⟨fun s key pressed => ?_, fun s v => by rw [p1 s v]; rfl⟩
  intro selected t
  have buttons := s.joypad.buttons.get_set key (pressed := pressed)
  by_cases raised : pressed = true ∧ s.joypad.buttons.get key = false ∧ selected = true
  · have move : t = _ := if_pos raised
    rw [move, if_pos raised]
    exact ⟨buttons, rfl, ⟨rfl, rfl⟩, rfl, rfl, rfl, rfl, rfl, rfl⟩
  · have move : t = _ := if_neg raised
    rw [move, if_neg raised]
    exact ⟨buttons, rfl, ⟨rfl, rfl⟩, rfl, rfl, rfl, rfl, rfl, rfl⟩

/-! ## The timer (R316, R317, R318) -/

/-- The period by the number in the two low bits of `TAC`. -/
theorem TimerState.period_eq (t : TimerState) : t.period = [1024, 16, 64, 256].getD (t.tac.toNat % 4) 0 := by
  have table : ∀ tac : BitVec 3,
      { State.reset.timer with tac := tac }.period = [1024, 16, 64, 256].getD (tac.toNat % 4) 0 := by decide
  exact table t.tac

theorem timaAfter_before {tima : Byte} (tma : Byte) {k : Nat} (h : k < 256 - tima.toNat) :
    timaAfter tima tma k = (tima + BitVec.ofNat 8 k, false) := if_pos h

theorem timaAfter_overflowed {tima : Byte} (tma : Byte) {k : Nat} (h : 256 - tima.toNat ≤ k) :
    timaAfter tima tma k =
      (BitVec.ofNat 8 (tma.toNat + (k - (256 - tima.toNat)) % (256 - tma.toNat)), true) := if_neg (Nat.not_lt_of_le h)

/-- One more increment of `TIMA` (R318): before the first overflow, at it, and in the runs from `TMA` after it. -/
theorem timaAfter_succ (tima tma : Byte) (k : Nat) :
    timaAfter tima tma (k + 1) =
      if (timaAfter tima tma k).1 = 0xFF#8 then (tma, true)
      else ((timaAfter tima tma k).1 + 1#8, (timaAfter tima tma k).2) := by
  have tmaBound := tma.isLt
  rcases Nat.lt_trichotomy (k + 1) (256 - tima.toNat) with before | first | after
  · have notFull : tima + BitVec.ofNat 8 k ≠ 0xFF#8 := by bv_omega
    rw [timaAfter_before tma before, timaAfter_before tma (Nat.lt_of_succ_lt before), if_neg notFull, BitVec.add_assoc,
      BitVec.ofNat_add]
  · have full : tima + BitVec.ofNat 8 k = 0xFF#8 := by bv_omega
    rw [timaAfter_overflowed tma first.ge, timaAfter_before tma (first ▸ Nat.lt_succ_self k), if_pos full, first,
      Nat.sub_self, Nat.zero_mod, Nat.add_zero, BitVec.ofNat_toNat, BitVec.setWidth_eq]
  · rw [timaAfter_overflowed tma after.le, timaAfter_overflowed tma (Nat.le_of_lt_succ after),
      Nat.sub_add_comm (Nat.le_of_lt_succ after)]
    generalize k - (256 - tima.toNat) = j
    have run := Nat.mod_lt j (Nat.sub_pos_of_lt tmaBound)
    rw [← Nat.mod_add_mod j _ 1]
    generalize j % (256 - tma.toNat) = m at run ⊢
    by_cases wraps : m + 1 = 256 - tma.toNat
    · have full : tma.toNat + m = 255 := by omega
      rw [wraps, Nat.mod_self, Nat.add_zero, BitVec.ofNat_toNat, BitVec.setWidth_eq, full, if_pos rfl]
    · have notFull : BitVec.ofNat 8 (tma.toNat + m) ≠ 0xFF#8 := by bv_omega
      rw [Nat.mod_eq_of_lt (by omega), if_neg notFull, ← Nat.add_assoc, BitVec.ofNat_add _ 1]

/-- Requesting the timer interrupt again changes nothing. -/
theorem request_timer_again (f : BitVec 5) (requested : Bool) :
    (if requested then f ||| 0b00100#5 else f) ||| IntSource.timer.mask = f ||| 0b00100#5 := by
  have mask : IntSource.timer.mask = 0b00100#5 := rfl
  rw [mask]
  cases requested
  · rfl
  · exact (BitVec.or_assoc _ _ _).trans (congrArg (f ||| ·) BitVec.or_self)

/-- `k` increments in closed form. -/
theorem State.timerIncrements_eq (s : State) (k : Nat) :
    s.timerIncrements k = { s with
      timer := { s.timer with tima := (timaAfter s.timer.tima s.timer.tma k).1 }
      intr := { s.intr with
        pendingFlags := if (timaAfter s.timer.tima s.timer.tma k).2 then s.intr.pendingFlags ||| 0b00100#5
          else s.intr.pendingFlags } } := by
  induction k with
  | zero =>
    rw [timaAfter_before _ (Nat.sub_pos_of_lt s.timer.tima.isLt), BitVec.add_zero]
    rfl
  | succ k ih =>
    rw [State.timerIncrements, ih, timaAfter_succ]
    generalize timaAfter s.timer.tima s.timer.tma k = r
    unfold State.timerIncrement
    dsimp only
    split
    · simp only [State.request, request_timer_again, if_true]
    · rfl

/-- The timer is advanced by its increments while `TAC` enables it, and the divider always (R316, R317). -/
theorem State.timerTick_counting {s : State} (counts : s.timer.tac.getLsbD 2 = true) (n : Nat) :
    s.timerTick n = State.timerIncrements
      { s with timer := { s.timer with
          divCounter := s.timer.divCounter + BitVec.ofNat 16 n
          timaSub := (s.timer.timaSub + n) % s.timer.period } }
      ((s.timer.timaSub + n) / s.timer.period) := if_pos counts

theorem State.timerTick_frozen {s : State} (frozen : ¬ s.timer.tac.getLsbD 2 = true) (n : Nat) :
    s.timerTick n = { s with timer := { s.timer with divCounter := s.timer.divCounter + BitVec.ofNat 16 n } } :=
  if_neg frozen

/-- Settles O47: the closed form of the increments, and the write to `DIV`, which is the register's own. -/
theorem timerTick : Obligations.TimerTick := by
  have div (s : State) (v : Byte) : s.write 0xFF04#16 v = s.ioWrite .div v := s.write_ioAddr .div v
  refine ⟨fun s v => congrArg State.timer (div s v), fun s n => ?_⟩
  dsimp only
  rw [← s.timer.period_eq]
  by_cases counts : s.timer.tac.getLsbD 2 = true
  · rw [if_pos counts, State.timerTick_counting counts, State.timerIncrements_eq]
  · rw [if_neg counts, State.timerTick_frozen counts]

end Sys2Proof.Machine
end

section
/-! More proofs of the family 30_encoding.md: the decoder and the encoder agree, and words written out. -/

namespace Sys2Proof

/-! ## Words and their bytes (R101) -/

theorem Word.hi_append_lo (nn : Word) : Word.hi nn ++ Word.lo nn = nn := by
  rw [Word.hi, Word.lo, BitVec.extractLsb'_append_extractLsb'_eq_extractLsb' (by rfl)]
  exact BitVec.extractLsb'_eq_self

theorem Word.lo_append (b2 b1 : Byte) : Word.lo (b2 ++ b1) = b1 := BitVec.extractLsb'_append_eq_right

theorem Word.hi_append (b2 b1 : Byte) : Word.hi (b2 ++ b1) = b2 := BitVec.extractLsb'_append_eq_left

/-! ## Decoding, then encoding -/

/-- An opcode byte is its fields `x`, `y` and `z` (R102). -/
theorem byte_eq_fields : ∀ b : Byte,
    b = BitVec.ofBool (b.getLsbD 7) ++ BitVec.ofBool (b.getLsbD 6) ++ (Field3.ofByte b 3).code
      ++ (Field3.ofByte b 0).code := by decide

/-- The instruction stands for the bytes at the head of a window of three. -/
def Instr.Heads (i : Instr) (b0 b1 b2 : Byte) : Prop := i.wellFormed = true ∧ encode i = [b0, b1, b2].take i.length

theorem Instr.Heads.length_le {i : Instr} {b0 b1 b2 : Byte} (h : i.Heads b0 b1 b2) : i.length ≤ 3 := by
  have length : i.length = ([b0, b1, b2].take i.length).length := congrArg List.length h.2
  rw [length]
  exact List.length_take_le' _ _

theorem decodeX0_heads (y z : Field3) (nn : Word) :
    (decodeX0 y z (Word.lo nn) nn).Heads (0b00#2 ++ y.code ++ z.code) (Word.lo nn) (Word.hi nn) := by
  cases z <;> cases y <;> exact ⟨rfl, rfl⟩

theorem decodeX1_heads (y z : Field3) (b1 b2 : Byte) :
    (decodeX1 y z).Heads (0b01#2 ++ y.code ++ z.code) b1 b2 := by
  cases y <;> cases z <;> exact ⟨rfl, rfl⟩

theorem decodeAlu_heads (y z : Field3) (b1 b2 : Byte) :
    (Instr.alu (AluOp.ofField y) (Loc8.ofField z).toSrc).Heads (0b10#2 ++ y.code ++ z.code) b1 b2 := by
  cases y <;> cases z <;> exact ⟨rfl, rfl⟩

theorem encode_decodeSecond : ∀ op2 : Byte, encode (decodeSecond op2) = [0xCB#8, op2] := by decide

theorem Instr.wellFormed_of_assigned {i : Instr} (assigned : i.unassignedByte = none) : i.wellFormed = true := by
  cases i with
  | illegal => cases assigned
  | _ => rfl

theorem decodeSecond_heads (op2 b2 : Byte) : (decodeSecond op2).Heads 0xCB#8 op2 b2 := by
  have outline := decodeSecond_outline op2
  have length : (decodeSecond op2).length = 2 := congrArg Prod.fst outline
  refine ⟨Instr.wellFormed_of_assigned (congrArg Prod.snd outline), ?_⟩
  rw [length]
  exact encode_decodeSecond op2

theorem decodeX3_heads (y z : Field3) (nn : Word) :
    (decodeX3 y z (0b11#2 ++ y.code ++ z.code) (Word.lo nn) nn).Heads (0b11#2 ++ y.code ++ z.code) (Word.lo nn)
      (Word.hi nn) := by
  cases z with
  | o3 =>
    cases y with
    | o1 => exact decodeSecond_heads _ _
    | _ => exact ⟨rfl, rfl⟩
  | _ => cases y <;> exact ⟨rfl, rfl⟩

/-- Whatever three bytes stand in memory, the decoded instruction stands for those at their head. -/
theorem decodeWindow_heads (b0 b1 b2 : Byte) : (decodeWindow b0 b1 b2).Heads b0 b1 b2 := by
  obtain ⟨nn, rfl, rfl⟩ : ∃ nn, Word.lo nn = b1 ∧ Word.hi nn = b2 :=
    ⟨b2 ++ b1, Word.lo_append b2 b1, Word.hi_append b2 b1⟩
  have fields := byte_eq_fields b0
  unfold decodeWindow
  dsimp only
  rw [Word.hi_append_lo]
  generalize Field3.ofByte b0 3 = y at fields ⊢
  generalize Field3.ofByte b0 0 = z at fields ⊢
  cases h7 : b0.getLsbD 7 <;> cases h6 : b0.getLsbD 6 <;> rw [h7, h6] at fields
  · exact fields ▸ decodeX0_heads y z nn
  · exact fields ▸ decodeX1_heads y z _ _
  · exact fields ▸ decodeAlu_heads y z _ _
  · exact fields ▸ decodeX3_heads y z nn

/-! ## Encoding, then decoding -/

/-- The encoding of an instruction decodes to it, with whatever follows it left over. -/
def Instr.Decodes (i : Instr) : Prop := ∀ rest : List Byte, decode (encode i ++ rest) = .ok (i, rest)

theorem Instr.Decodes.of_bytes {i : Instr} {b0 : Byte} {tail : List Byte} (bytes : encode i = b0 :: tail)
    (head : ∀ rest : List Byte, decodeWindow b0 ((tail ++ rest).getD 0 0) ((tail ++ rest).getD 1 0) = i) : i.Decodes := by
  intro rest
  have length : i.length = (b0 :: tail).length := congrArg List.length bytes
  have answer := decode_cons b0 (tail ++ rest)
  rw [head rest, length] at answer
  rw [bytes, List.cons_append, answer (by simp), ← List.cons_append, List.drop_left]

/-- An unassigned byte is left of whatever follows it (R113). -/
theorem decodes_illegal {op : Byte} (listed : op ∈ unassignedBytes) : (Instr.illegal op).Decodes :=
  .of_bytes rfl fun _ => Machine.decodeWindow_unassigned listed _ _

/-- The second table (R108): the two bits of the quadrant, the field `y`, the operand code. -/
theorem decodes_second {i : Instr} {op2 : Byte} (bytes : encode i = [0xCB#8, op2]) (second : decodeSecond op2 = i) :
    i.Decodes :=
  .of_bytes bytes fun _ => second

end Sys2Proof

namespace Sys2Proof.Machine

/-- Every first byte, and every second byte after 0xCB, selects its own instruction. An operand of one byte is read as
it stands, one of two bytes is put together again. -/
theorem Form.decodes {f : Form} (wf : f.instr.wellFormed = true) : f.instr.Decodes := by
  cases f with
  | illegal op => exact decodes_illegal (List.contains_iff_mem.1 wf)
  | ldNnSp nn | ldNnA nn | ldANn nn | jp nn | call nn => exact .of_bytes rfl fun _ => congrArg _ (Word.hi_append_lo nn)
  | ldPairImm p nn => cases p <;> exact .of_bytes rfl fun _ => congrArg _ (Word.hi_append_lo nn)
  | jpCond cc nn | callCond cc nn => cases cc <;> exact .of_bytes rfl fun _ => congrArg _ (Word.hi_append_lo nn)
  | ldRegReg dst src => cases dst <;> cases src <;> exact .of_bytes rfl fun _ => rfl
  | ldRegImm r _ | ldRegMem r | ldMemReg r => cases r <;> exact .of_bytes rfl fun _ => rfl
  | push p | pop p | addHl p | incPair p | decPair p => cases p <;> exact .of_bytes rfl fun _ => rfl
  | alu op x =>
    cases x with
    | reg r => cases op <;> cases r <;> exact .of_bytes rfl fun _ => rfl
    | atHL | imm => cases op <;> exact .of_bytes rfl fun _ => rfl
  | inc x | dec x => rcases x with ⟨⟨⟩⟩ | _ <;> exact .of_bytes rfl fun _ => rfl
  | jrCond cc _ | retCond cc => cases cc <;> exact .of_bytes rfl fun _ => rfl
  | rst t => cases t <;> exact .of_bytes rfl fun _ => rfl
  | rot op x => exact decodes_second (encode_rot op x) (by cases op <;> rcases x with ⟨⟨⟩⟩ | _ <;> rfl)
  | bit n x => exact decodes_second (encode_bit n x) (by cases n <;> rcases x with ⟨⟨⟩⟩ | _ <;> rfl)
  | res n x => exact decodes_second (encode_res n x) (by cases n <;> rcases x with ⟨⟨⟩⟩ | _ <;> rfl)
  | set n x => exact decodes_second (encode_set n x) (by cases n <;> rcases x with ⟨⟨⟩⟩ | _ <;> rfl)
  | _ => exact .of_bytes rfl fun _ => rfl

end Sys2Proof.Machine

namespace Sys2Proof

theorem Instr.decodes {i : Instr} (wf : i.wellFormed = true) : i.Decodes := by
  rw [← Machine.Form.instr_of i] at wf ⊢
  exact Machine.Form.decodes wf

/-- An instruction that takes no byte past the end takes those of the window (R116). -/
theorem take_window {b0 : Byte} {tail : List Byte} {n : Nat} (enough : n ≤ (b0 :: tail).length) (three : n ≤ 3) :
    [b0, tail.getD 0 0, tail.getD 1 0].take n = (b0 :: tail).take n := by
  have padded : [b0, tail.getD 0 0, tail.getD 1 0] = (b0 :: tail ++ [0, 0]).take 3 := by
    rcases tail with _ | ⟨_, _ | ⟨_, _⟩⟩ <;> rfl
  rw [padded, List.take_take, Nat.min_eq_left three, List.take_append_of_le_length enough]

/-- What decodes is the head of the bytes, the rest is left over. -/
theorem decode_inv {bytes rest : List Byte} {i : Instr} (h : decode bytes = .ok (i, rest)) :
    i.wellFormed = true ∧ bytes = encode i ++ rest := by
  cases bytes with
  | nil => cases h
  | cons b0 tail =>
    obtain ⟨wf, head⟩ := decodeWindow_heads b0 (tail.getD 0 0) (tail.getD 1 0)
    unfold decode at h
    dsimp only at h
    generalize decodeWindow b0 (tail.getD 0 0) (tail.getD 1 0) = j at h wf head
    split at h
    · cases h
    · rename_i enough
      cases h
      refine ⟨wf, ?_⟩
      rw [head, take_window (Nat.le_of_not_lt enough) (Instr.Heads.length_le ⟨wf, head⟩), List.take_append_drop]

/-- Settles O2: an encoding decodes to its instruction, constructor by constructor; a decoded instruction stands for the bytes
at the head, quadrant by quadrant of the first table. -/
theorem decodeAndEncodeAgree : Obligations.DecodeAndEncodeAgree :=
  ⟨fun _ rest wf => Instr.decodes wf rest, fun _ _ _ => decode_inv⟩

/-- Settles O1: each word is the encoding of its instruction, as O2 decodes it; without a byte, or without the last byte of an
operand, the decoder refuses. -/
theorem knownWordsDecode : Obligations.KnownWordsDecode := by
  have word (i : Instr) (rest : List Byte) (wf : i.wellFormed = true) : decode (encode i ++ rest) = .ok (i, rest) :=
    Instr.decodes wf rest
  exact ⟨word .nop [] rfl, word (.stop 0x00#8) [] rfl, word .ld_B_A [] rfl, word (.ld_A_n 0x42#8) [] rfl,
    word (.ld_A_atNN 0xFF44#16) [] rfl, word (.ldh_atN_A 0x04#8) [0x99#8] rfl, word (.ld_SP_nn 0xFFFE#16) [] rfl,
    word (.ld_HL_SPe 0x02#8) [] rfl, word (.add_A_n 0xC6#8) [] rfl, word .sbc_A_atHL [] rfl, word .inc_atHL [] rfl,
    word .daa [] rfl, word .add_HL_BC [] rfl, word .rra [] rfl, word .swap_A [] rfl, word .bit_4_L [] rfl,
    word .set_1_E [] rfl, word (.jp_nn 0x0150#16) [] rfl, word (.jr_NZ_e 0xFD#8) [] rfl, word .rst_28 [] rfl,
    word .reti [] rfl, word .halt [] rfl, word .ei [] rfl, word (.illegal 0xDD#8) [] rfl, rfl, rfl⟩

end Sys2Proof
end

section
/-! Proofs of the family 61_ppu.md: one cycle of the PPU, the frame over any number of cycles, the LCD enable, composition, the
sprites of a scanline; and the device advances (70_reset_and_hazards.md R410). -/

namespace Sys2Proof.Machine

/-! ## What rendering reads (R358) -/

/-- The state with other values where rendering does not look: requests, timer, serial port and the in-mode counter. -/
def State.unseen (s : State) (i : InterruptState) (t : TimerState) (p : SerialState) (d : Nat) : State :=
  { s with intr := i, timer := t, serial := p, ppu := { s.ppu with dot := d } }

section Unseen

variable (s : State) (i : InterruptState) (t : TimerState) (p : SerialState) (d : Nat)

theorem State.unseen_spriteAt (x : Nat) (sprites : List Sprite) :
    (s.unseen i t p d).spriteAt x sprites = s.spriteAt x sprites := by
  induction sprites with
  | nil => rfl
  | cons q qs ih =>
    exact congrArg (fun later => if q.covers x ∧ s.spriteCi q x ≠ 0#2 then some (q, s.spriteCi q x) else later) ih

theorem State.unseen_pixel : (s.unseen i t p d).pixel = s.pixel := by
  funext sprites x
  simp only [State.pixel, State.unseen_spriteAt]
  rfl

theorem State.unseen_selectedSprites : (s.unseen i t p d).selectedSprites = s.selectedSprites := rfl

theorem State.unseen_scanline : (s.unseen i t p d).scanline = s.scanline := by
  simp only [State.scanline, State.unseen_selectedSprites, State.unseen_pixel]

end Unseen

/-! ## Raising requests (R355 to R357) -/

/-- Set bits of `IF`. -/
def State.raise (s : State) (m : BitVec 5) : State :=
  { s with intr := { s.intr with pendingFlags := s.intr.pendingFlags ||| m } }

theorem State.request_eq_raise (s : State) (n : IntSource) : s.request n = s.raise n.mask := rfl

theorem State.raise_raise (s : State) (m k : BitVec 5) : (s.raise m).raise k = s.raise (m ||| k) := by
  simp only [State.raise, BitVec.or_assoc]

theorem State.raise_zero (s : State) : s.raise 0#5 = s := by
  simp only [State.raise, BitVec.or_zero]

/-- The LCD-status bit of `IF` when its condition is met (R355). -/
def statBit (met : Bool) : BitVec 5 := if met then 0b00010#5 else 0#5

theorem statBit_or (b c : Bool) : statBit b ||| statBit c = statBit (b || c) := by
  cases b <;> cases c <;> rfl

theorem State.statIf_eq (s : State) (k : Nat) : s.statIf k = s.raise (statBit (s.ppu.statEn.getLsbD (k - 3))) := by
  unfold State.statIf
  cases s.ppu.statEn.getLsbD (k - 3) with
  | true => rfl
  | false => exact s.raise_zero.symm

theorem State.lycCheck_eq (s : State) :
    s.lycCheck = s.raise (statBit (s.ppu.statEn.getLsbD 3 && s.ppu.ly == s.ppu.lyc)) := by
  unfold State.lycCheck
  split
  · rename_i same
    rw [State.statIf_eq, same, beq_self_eq_true, Bool.and_true]
  · rename_i differ
    rw [beq_eq_false_iff_ne.2 differ, Bool.and_false]
    exact s.raise_zero.symm

/-! ## One cycle (R353) -/

/-- The first cycle of a mode on a scanline. -/
def State.startMode (s : State) (m : Mode) (l : Byte) : State := { s with ppu := { s.ppu with mode := m, ly := l, dot := 0 } }

theorem State.endPixelTransfer_eq (s : State) :
    s.endPixelTransfer = (s.renderScanline.enterMode .horizontalBlank).raise (statBit (s.ppu.statEn.getLsbD 0)) :=
  State.statIf_eq _ 3

/-- Into the next visible scanline, or into vertical-blank with the frame published (R353, R356, R366). -/
theorem State.endHorizontalBlank_eq (s : State) :
    let l := s.ppu.ly + 1#8
    let on (k : Nat) := s.ppu.statEn.getLsbD (k - 3)
    s.endHorizontalBlank =
      if l = 144#8 then
        (s.startMode .verticalBlank l).publishFrame.raise (0b00001#5 ||| statBit (on 4 || (on 6 && l == s.ppu.lyc)))
      else (s.startMode .oamSearch l).raise (statBit (on 5 || (on 6 && l == s.ppu.lyc))) := by
  simp only [State.endHorizontalBlank, State.lycCheck_eq, State.statIf_eq, State.request_eq_raise, State.setLy_ppu_ly]
  by_cases last : s.ppu.ly + 1#8 = 144#8
  · rw [if_pos last, if_pos last, ← statBit_or, ← BitVec.or_assoc, ← State.raise_raise, ← State.raise_raise]
    rfl
  · rw [if_neg last, if_neg last, ← statBit_or, ← State.raise_raise]
    rfl

/-- Into the next scanline of vertical-blank, or into scanline 0 (R353). -/
theorem State.endVerticalBlankLine_eq (s : State) :
    let l := s.ppu.ly + 1#8
    let on (k : Nat) := s.ppu.statEn.getLsbD (k - 3)
    s.endVerticalBlankLine =
      if l = 154#8 then (s.startMode .oamSearch 0#8).raise (statBit (on 5 || (on 6 && 0#8 == s.ppu.lyc)))
      else (s.startMode .verticalBlank l).raise (statBit (on 6 && l == s.ppu.lyc)) := by
  simp only [State.endVerticalBlankLine, State.lycCheck_eq, State.statIf_eq, State.setLy_ppu_ly]
  by_cases last : s.ppu.ly + 1#8 = 154#8
  · rw [if_pos last, if_pos last, ← statBit_or, ← State.raise_raise]
    rfl
  · rw [if_neg last, if_neg last]
    rfl

/-- The next cycle of the same mode. -/
def State.nextDot (s : State) : State := { s with ppu := { s.ppu with dot := s.ppu.dot + 1 } }

theorem State.nextDot_scanline (s : State) : s.nextDot.scanline = s.scanline := s.unseen_scanline _ _ _ _

theorem State.ppuTick1_off {s : State} (off : s.ppu.lcdc.getLsbD 7 = false) : s.ppuTick1 = s :=
  if_neg (Bool.eq_false_iff.1 off)

theorem State.ppuTick1_on {s : State} (on : s.ppu.lcdc.getLsbD 7 = true) :
    s.ppuTick1 = if s.ppu.dot + 1 = s.ppu.mode.budget then s.nextDot.endOfMode else s.nextDot := if_pos on

theorem Mode.budget_pos (m : Mode) : 0 < m.budget := by
  cases m <;> decide

/-- A mode starts at dot 0. -/
theorem positionAfter_dot (m : Mode) (l : Byte) : (positionAfter m l).2.2 = 0 := by
  cases m with
  | oamSearch | pixelTransfer => rfl
  | horizontalBlank | verticalBlank =>
    unfold positionAfter
    dsimp only
    split <;> rfl

/-- The in-mode counter stays below the budget, also where the LCD is off. -/
theorem State.ppuTick1_dot {s : State} (below : s.ppu.dot < s.ppu.mode.budget) :
    s.ppuTick1.ppu.dot < s.ppuTick1.ppu.mode.budget := by
  cases on : s.ppu.lcdc.getLsbD 7 with
  | false => rwa [State.ppuTick1_off on]
  | true =>
    rw [State.ppuTick1_on on]
    split
    · have dot : s.nextDot.endOfMode.ppu.dot = 0 :=
        (congrArg (·.2.2) s.nextDot.endOfMode_position).trans (positionAfter_dot _ _)
      exact dot ▸ Mode.budget_pos _
    · rename_i more
      exact Nat.lt_of_le_of_ne below more

/-- Settles O51: within the budget only `dot` moves; at its end, mode by mode, the closed forms above. -/
theorem ppuCycle : Obligations.PpuCycle := by
  refine ⟨fun s => State.ppuTick1_off, fun s => State.ppuTick1_dot, fun s on => ?_⟩
  rw [State.ppuTick1_on on, State.endOfMode]
  intro p on stat moved l1
  have same : s.nextDot.ppu.mode = p.mode := rfl
  rw [same]
  cases mode : p.mode with
  | oamSearch => exact if_congr Nat.succ_inj (State.raise_zero _).symm (mode ▸ rfl)
  | pixelTransfer =>
    refine if_congr Nat.succ_inj (s.nextDot.endPixelTransfer_eq.trans ?_) (mode ▸ rfl)
    rw [State.renderScanline, State.nextDot_scanline]
    rfl
  | horizontalBlank => exact if_congr Nat.succ_inj s.nextDot.endHorizontalBlank_eq (mode ▸ rfl)
  | verticalBlank => exact if_congr Nat.succ_inj s.nextDot.endVerticalBlankLine_eq (mode ▸ rfl)

/-! ## The frame (R351, R354) -/

/-- The cycle of the frame at a position: `PpuState.frameCycle` by mode, scanline and in-mode counter. -/
def cycleAt : Mode × Byte × Nat → Nat
  | (.oamSearch, l, d) => 456 * l.toNat + d
  | (.pixelTransfer, l, d) => 456 * l.toNat + 80 + d
  | (.horizontalBlank, l, d) => 456 * l.toNat + 252 + d
  | (.verticalBlank, l, d) => 456 * l.toNat + d

theorem PpuState.frameCycle_eq (p : PpuState) : p.frameCycle = cycleAt p.position := by
  unfold PpuState.frameCycle PpuState.position
  cases p.mode <;> rfl

/-- The modes but vertical-blank are those of the scanlines before 144 (10_state.md R31). -/
theorem positionOk.visible {m : Mode} {l : Byte} {d : Nat} (ok : positionOk (m, l, d)) (mode : m ≠ .verticalBlank) :
    ¬ 144 ≤ l.toNat := fun late => mode (ok.2.2.2 late)

/-- The position at a cycle of a scanline. -/
theorem framePosition_line (l : Nat) {k : Nat} (small : k < 456) :
    framePosition (456 * l + k) =
      if 144 ≤ l then (.verticalBlank, l, k)
      else if k < 80 then (.oamSearch, l, k)
      else if k < 252 then (.pixelTransfer, l, k - 80)
      else (.horizontalBlank, l, k - 252) := by
  have line : (456 * l + k) / 456 = l := by omega
  have at' : (456 * l + k) % 456 = k := by omega
  rw [framePosition, line, at']

/-- `framePosition` gives back each legal position from its cycle. -/
theorem framePosition_cycleAt {p : Mode × Byte × Nat} (ok : positionOk p) :
    framePosition (cycleAt p) = (p.1, p.2.1.toNat, p.2.2) := by
  obtain ⟨m, l, d⟩ := p
  have ⟨_, below, vblank⟩ := ok
  cases m with
  | oamSearch =>
    have below : d < 80 := below
    have visible := ok.visible nofun
    rw [cycleAt, framePosition_line _ (by omega), if_neg visible, if_pos below]
  | pixelTransfer =>
    have below : d < 172 := below
    have visible := ok.visible nofun
    rw [cycleAt, Nat.add_assoc, framePosition_line _ (by omega), if_neg visible, if_neg (by omega), if_pos (by omega),
      Nat.add_sub_cancel_left]
  | horizontalBlank =>
    have below : d < 204 := below
    have visible := ok.visible nofun
    rw [cycleAt, Nat.add_assoc, framePosition_line _ (by omega), if_neg visible, if_neg (by omega), if_neg (by omega),
      Nat.add_sub_cancel_left]
  | verticalBlank =>
    rw [cycleAt, framePosition_line _ below, if_pos (vblank.1 rfl)]

/-- The scanline after a legal one. -/
theorem toNat_nextLine {l : Byte} (ok : l.toNat ≤ 153) : (l + 1#8).toNat = l.toNat + 1 := by
  rw [BitVec.toNat_add, BitVec.toNat_ofNat]
  omega

theorem nextLine_eq_iff {l : Byte} (ok : l.toNat ≤ 153) (m : Byte) : l + 1#8 = m ↔ l.toNat + 1 = m.toNat := by
  rw [← BitVec.toNat_inj, toNat_nextLine ok]

theorem cycleAt_nextDot (m : Mode) (l : Byte) (d : Nat) : cycleAt (m, l, d + 1) = cycleAt (m, l, d) + 1 := by
  cases m <;> rfl

/-- The last cycle of a mode is followed by the first of the next one. -/
theorem cycleAt_positionAfter {m : Mode} {l : Byte} {d : Nat} (ok : positionOk (m, l, d)) (last : d + 1 = m.budget) :
    cycleAt (positionAfter m l) = (cycleAt (m, l, d) + 1) % 70224 := by
  have ⟨lines, _, vblank⟩ := ok
  have next := toNat_nextLine lines
  cases m with
  | oamSearch =>
    have last : d + 1 = 80 := last
    simp only [positionAfter, cycleAt]
    omega
  | pixelTransfer =>
    have last : d + 1 = 172 := last
    simp only [positionAfter, cycleAt]
    omega
  | horizontalBlank =>
    have last : d + 1 = 204 := last
    have visible := ok.visible nofun
    unfold positionAfter
    dsimp only
    split
    · simp only [cycleAt]
      omega
    · simp only [cycleAt]
      omega
  | verticalBlank =>
    have last : d + 1 = 456 := last
    have late := vblank.1 rfl
    unfold positionAfter
    dsimp only
    split
    · rename_i wraps
      have wraps : l.toNat + 1 = 154 := (nextLine_eq_iff lines 154#8).1 wraps
      simp only [cycleAt, BitVec.toNat_ofNat]
      omega
    · rename_i more
      have more : l.toNat + 1 ≠ 154 := fun e => more ((nextLine_eq_iff lines 154#8).2 e)
      simp only [cycleAt]
      omega

/-- Inside a mode the frame does not end. -/
theorem cycleAt_lt {m : Mode} {l : Byte} {d : Nat} (ok : positionOk (m, l, d)) :
    cycleAt (m, l, d) + m.budget ≤ 70224 + d := by
  have ⟨lines, below, vblank⟩ := ok
  cases m with
  | verticalBlank =>
    simp only [cycleAt, Mode.budget]
    omega
  | oamSearch | pixelTransfer | horizontalBlank =>
    have visible := ok.visible nofun
    simp only [cycleAt, Mode.budget]
    omega

/-- One cycle later, modulo the frame. -/
theorem cycleAt_nextPosition {p : Mode × Byte × Nat} (ok : positionOk p) :
    cycleAt (nextPosition p) = (cycleAt p + 1) % 70224 := by
  obtain ⟨m, l, d⟩ := p
  unfold nextPosition
  dsimp only
  split
  · rename_i last
    exact cycleAt_positionAfter ok last
  · rename_i more
    have frame := cycleAt_lt ok
    have below : d < m.budget := ok.2.1
    rw [cycleAt_nextDot, Nat.mod_eq_of_lt (by omega)]

/-- A new frame is published and vertical-blank requested, or neither. -/
structure Publishes (new : Bool) (s t : State) : Prop where
  frames : t.ppu.frames.length = s.ppu.frames.length + new.toNat
  request : t.intr.pendingFlags.getLsbD 0 = (s.intr.pendingFlags.getLsbD 0 || new)

theorem Publishes.nothing {s t : State} (frames : t.ppu.frames = s.ppu.frames) (met : Bool)
    (request : t.intr.pendingFlags = s.intr.pendingFlags ||| statBit met) : Publishes false s t where
  frames := congrArg List.length frames
  request := by
    rw [request, BitVec.getLsbD_or]
    cases met <;> rfl

/-- Horizontal-blank of scanline 143 is the one that ends with a frame (R356, R366). -/
theorem State.endOfMode_publishes (s : State) :
    Publishes (decide (s.ppu.mode = .horizontalBlank ∧ s.ppu.ly + 1#8 = 144#8)) s s.endOfMode := by
  unfold State.endOfMode
  cases mode : s.ppu.mode with
  | oamSearch => exact .nothing rfl false (BitVec.or_zero).symm
  | pixelTransfer =>
    dsimp only
    rw [State.endPixelTransfer_eq]
    exact .nothing rfl _ rfl
  | horizontalBlank =>
    dsimp only
    rw [State.endHorizontalBlank_eq]
    by_cases last : s.ppu.ly + 1#8 = 144#8
    · rw [if_pos last, decide_eq_true ⟨rfl, last⟩]
      refine ⟨List.length_append, ?_⟩
      show BitVec.getLsbD (_ ||| (_ ||| _)) 0 = _
      rw [BitVec.getLsbD_or, BitVec.getLsbD_or]
      rfl
    · rw [if_neg last, decide_eq_false fun both => last both.2]
      exact .nothing rfl _ rfl
  | verticalBlank =>
    dsimp only
    rw [State.endVerticalBlankLine_eq]
    split
    · exact .nothing rfl _ rfl
    · exact .nothing rfl _ rfl

/-- Scanline 144 is entered after the last cycle of horizontal-blank on scanline 143. -/
theorem cycleAt_vblank_iff {m : Mode} {l : Byte} {d : Nat} (ok : positionOk (m, l, d)) :
    cycleAt (m, l, d) + 1 = 65664 ↔ d + 1 = m.budget ∧ m = .horizontalBlank ∧ l + 1#8 = 144#8 := by
  obtain ⟨lines, below, vblank⟩ := ok
  rw [nextLine_eq_iff lines, BitVec.toNat_ofNat]
  cases m with
  | horizontalBlank =>
    simp only [cycleAt, Mode.budget, true_and] at below ⊢
    omega
  | verticalBlank =>
    have late := vblank.1 rfl
    refine ⟨fun e => ?_, fun both => nomatch both.2.1⟩
    simp only [cycleAt] at e
    omega
  | oamSearch | pixelTransfer =>
    refine ⟨fun e => ?_, fun both => nomatch both.2.1⟩
    simp only [cycleAt, Mode.budget] at e below
    omega

theorem PpuState.Ok.position {p : PpuState} (ok : p.Ok) (on : p.lcdc.getLsbD 7 = true) : positionOk p.position :=
  ⟨ok.ly, ok.dot, ok.vblank on⟩

theorem State.ppuTick1_lcdc (s : State) : s.ppuTick1.ppu.lcdc = s.ppu.lcdc := by
  obtain ⟨_, _, _, _, _, _, e⟩ := s.ppuTick1_move
  rw [e]

theorem State.ppuTick1_publishes {s : State} (on : s.ppu.lcdc.getLsbD 7 = true) (ok : s.ppu.Ok) :
    Publishes (decide (s.ppu.frameCycle + 1 = 65664)) s s.ppuTick1 := by
  have enters := cycleAt_vblank_iff (ok.position on)
  rw [State.ppuTick1_on on, s.ppu.frameCycle_eq, PpuState.position]
  split
  · rename_i last
    obtain ⟨frames, request⟩ := s.nextDot.endOfMode_publishes
    exact decide_eq_decide.2 (enters.trans (and_iff_right last)) ▸ ⟨frames, request⟩
  · rename_i more
    rw [decide_eq_false fun last => more (enters.1 last).1]
    exact .nothing rfl false (BitVec.or_zero).symm

theorem State.ppuTick1_frameCycle {s : State} (on : s.ppu.lcdc.getLsbD 7 = true) (ok : s.ppu.Ok) :
    s.ppuTick1.ppu.frameCycle = (s.ppu.frameCycle + 1) % 70224 := by
  rw [PpuState.frameCycle_eq, PpuState.frameCycle_eq, State.ppuTick1_position, if_pos (show s.lcdOn = true from on),
    cycleAt_nextPosition (ok.position on)]

/-- How often scanline 144 is entered in `n` cycles from cycle `k` of a frame; it begins 4560 cycles before the next frame. -/
def vblankEntries (k n : Nat) : Nat := (k + n + 4560) / 70224 - (k + 4560) / 70224

theorem vblankEntries_zero (k : Nat) : vblankEntries k 0 = 0 := Nat.sub_self _

theorem vblankEntries_succ (k n : Nat) :
    vblankEntries k (n + 1) = vblankEntries k n + (decide ((k + n) % 70224 + 1 = 65664)).toNat := by
  unfold vblankEntries
  by_cases enters : (k + n) % 70224 + 1 = 65664
  · rw [decide_eq_true enters, Bool.toNat_true]
    omega
  · rw [decide_eq_false enters, Bool.toNat_false]
    omega

theorem decide_pos_or (k : Nat) (b : Bool) : (decide (0 < k) || b) = decide (0 < k + b.toNat) := by
  cases b with
  | false => exact Bool.or_false _
  | true => exact (Bool.or_true _).trans (decide_eq_true (Nat.succ_pos k)).symm

/-- Where `n` cycles lead from `s`, with the LCD on. -/
structure FrameProgress (s t : State) (n : Nat) : Prop where
  on : t.ppu.lcdc.getLsbD 7 = true
  ok : t.ppu.Ok
  cycle : t.ppu.frameCycle = (s.ppu.frameCycle + n) % 70224
  frames : t.ppu.frames.length = s.ppu.frames.length + vblankEntries s.ppu.frameCycle n
  request : t.intr.pendingFlags.getLsbD 0
    = (s.intr.pendingFlags.getLsbD 0 || decide (0 < vblankEntries s.ppu.frameCycle n))

/-- A legal position is a cycle of the frame. -/
theorem PpuState.Ok.frameCycle_lt {p : PpuState} (ok : p.Ok) (on : p.lcdc.getLsbD 7 = true) : p.frameCycle < 70224 := by
  have frame : cycleAt p.position + p.mode.budget ≤ 70224 + p.dot := cycleAt_lt (ok.position on)
  have below := ok.dot
  rw [p.frameCycle_eq]
  omega

theorem State.ppuTick_progress {s : State} (on : s.ppu.lcdc.getLsbD 7 = true) (ok : s.ppu.Ok) (n : Nat) :
    FrameProgress s (s.ppuTick n) n := by
  induction n with
  | zero =>
    refine ⟨on, ok, (Nat.mod_eq_of_lt (ok.frameCycle_lt on)).symm, ?_, ?_⟩
    · rw [vblankEntries_zero]; rfl
    · rw [vblankEntries_zero]; exact (Bool.or_false _).symm
  | succ n ih =>
    obtain ⟨frames, request⟩ := State.ppuTick1_publishes ih.on ih.ok
    rw [ih.cycle, ih.frames] at frames
    rw [ih.cycle, ih.request] at request
    refine ⟨(State.ppuTick1_lcdc _).symm ▸ ih.on, State.ppuTick1_ok _ ih.ok, ?_, ?_, ?_⟩
    · rw [State.ppuTick, State.ppuTick1_frameCycle ih.on ih.ok, ih.cycle, Nat.mod_add_mod, Nat.add_assoc]
    · rw [vblankEntries_succ, ← Nat.add_assoc]; exact frames
    · rw [vblankEntries_succ, State.ppuTick, request, Bool.or_assoc, decide_pos_or]

/-- Settles O52: a legal position is its cycle of the frame, each tick goes one cycle on, and the tick into scanline 144 is
the one that publishes. -/
theorem frameTimeline : Obligations.FrameTimeline := by
  intro s n on ok
  obtain ⟨on', ok', cycle, frames, request⟩ := State.ppuTick_progress on ok n
  refine ⟨?_, frames, request⟩
  rw [← cycle, PpuState.frameCycle_eq, framePosition_cycleAt (ok'.position on')]
  rfl

/-! ## The LCD enable (R352) -/

theorem State.ppuTick_off {s : State} (off : s.ppu.lcdc.getLsbD 7 = false) (n : Nat) : s.ppuTick n = s := by
  induction n with
  | zero => rfl
  | succ n ih => rw [State.ppuTick, ih, State.ppuTick1_off off]

/-- With the LCD off no gate is closed, and `STAT` and `LY` read as mode 0 and scanline 0. -/
theorem State.off_views {s : State} (off : s.lcdOn = false) :
    s.vramDenied = false ∧ s.oamDenied = false ∧ s.statView.extractLsb' 0 2 = 0#2 ∧ s.lyView = 0#8 := by
  simp only [State.vramDenied, State.oamDenied, State.statView, State.lyView, off, Bool.false_and, if_neg Bool.false_ne_true,
    BitVec.extractLsb'_append_eq_right, and_self]

theorem PpuState.writeLcdc_same {p : PpuState} {v : Byte} (same : p.lcdc.getLsbD 7 = v.getLsbD 7) :
    p.writeLcdc v = { p with lcdc := v } := by
  unfold PpuState.writeLcdc
  rw [same]
  cases v.getLsbD 7 <;> rfl

/-- Settles O53: the off PPU stands still, and a write to `LCDC` is the register's own. -/
theorem lcdEnable : Obligations.LcdEnable := by
  intro s v n
  have write : s.write 0xFF40#16 v = { s with ppu := s.ppu.writeLcdc v } := s.write_ioAddr .lcdc v
  refine ⟨fun off => ?off, fun inv off => ?rest, s.read_ioAddr .lcdc, fun was now => ?stop, fun was now => ?start,
    fun same => ?store⟩
  case off =>
    obtain ⟨vram, oam, stat, ly⟩ := State.off_views off
    exact ⟨State.ppuTick_off off n, vram, oam, (congrArg (BitVec.extractLsb' 0 2) (s.read_ioAddr .stat)).trans stat,
      (s.read_ioAddr .ly).trans ly⟩
  case rest =>
    obtain ⟨mode, ly, dot⟩ := inv.ppu.off off
    exact ⟨ly, mode, dot⟩
  case stop => rw [write, PpuState.writeLcdc, was, now]
  case start => rw [write, PpuState.writeLcdc, was, now]
  case store => rw [write, PpuState.writeLcdc_same same]

/-! ## Composition (R365) -/

theorem paletteShade_eq (pal : Byte) (ci : BitVec 2) : paletteShade pal ci = (pal >>> (2 * ci.toNat)).setWidth 2 := by
  ext i hi
  simp [paletteShade]

theorem State.bgCi_eq (s : State) (x : Nat) :
    s.bgCi x = if s.ppu.lcdc.getLsbD 0 = false then 0#2
      else if s.windowCovers x then s.windowCi x else s.backgroundCi x := by
  unfold State.bgCi
  cases s.ppu.lcdc.getLsbD 0 <;> rfl

theorem State.scanline_getElem (s : State) {x : Nat} (hx : x < 160) : s.scanline[x] = s.pixel s.selectedSprites x := by
  simp [State.scanline]

/-- A shade of the framebuffer after a scanline is rendered (R358). -/
theorem State.renderScanline_getElem (s : State) {y x : Nat} (hy : y < 144) (hx : x < 160) :
    (s.renderScanline.ppu.fb[y])[x] =
      if y ≠ s.ppu.ly.toNat then (s.ppu.fb[y])[x] else s.pixel s.selectedSprites x := by
  have row : s.renderScanline.ppu.fb[y] = if s.ppu.ly.toNat = y then s.scanline else s.ppu.fb[y] :=
    Vector.getElem_setIfInBounds hy
  simp only [row]
  by_cases this : s.ppu.ly.toNat = y
  · simp only [if_pos this, if_neg (not_not_intro this.symm)]
    exact s.scanline_getElem hx
  · simp only [if_neg this, if_pos (Ne.symm this)]

/-- Settles O54: the rendered row holds the shade of each column, and every other row is left. -/
theorem composition : Obligations.Composition := by
  intro s y x hy hx p bg entry
  have background : s.bgCi x = bg := s.bgCi_eq x
  rw [s.renderScanline_getElem hy hx, State.pixel]
  simp only [background, paletteShade_eq]
  rfl

/-! ## Sprite selection (R363) -/

theorem Sprite.before_iff (p q : Sprite) :
    p.before q = true ↔ p.x.toNat < q.x.toNat ∨ (p.x = q.x ∧ p.index < q.index) := by
  simp [Sprite.before]

theorem Sprite.before_trans {p q r : Sprite} (h : p.before q = true) (k : q.before r = true) : p.before r = true := by
  rw [Sprite.before_iff, ← BitVec.toNat_inj] at *
  omega

/-- Of two entries of the table one comes first. -/
theorem Sprite.before_total {p q : Sprite} (distinct : p.index ≠ q.index) (h : ¬ p.before q = true) :
    q.before p = true := by
  rw [Sprite.before_iff, ← BitVec.toNat_inj] at *
  omega

theorem Sprite.insert_perm (p : Sprite) (l : List Sprite) : (Sprite.insert p l).Perm (p :: l) := by
  induction l with
  | nil => exact .refl _
  | cons q qs ih =>
    unfold Sprite.insert
    split
    · exact .refl _
    · exact (ih.cons q).trans (.swap p q qs)

theorem Sprite.sort_perm (l : List Sprite) : (Sprite.sort l).Perm l := by
  induction l with
  | nil => exact .refl _
  | cons p ps ih => exact (Sprite.insert_perm p _).trans (ih.cons p)

theorem Sprite.insert_pairwise {p : Sprite} {l : List Sprite} (sorted : l.Pairwise (Sprite.before · · = true))
    (distinct : ∀ q ∈ l, p.index ≠ q.index) : (Sprite.insert p l).Pairwise (Sprite.before · · = true) := by
  induction l with
  | nil => exact List.pairwise_singleton _ _
  | cons q qs ih =>
    obtain ⟨first, rest⟩ := List.pairwise_cons.1 sorted
    obtain ⟨hq, hqs⟩ := List.forall_mem_cons.1 distinct
    unfold Sprite.insert
    split
    · rename_i before
      have all : ∀ r ∈ q :: qs, p.before r = true :=
        List.forall_mem_cons.2 ⟨before, fun r hr => Sprite.before_trans before (first r hr)⟩
      exact List.pairwise_cons.2 ⟨all, sorted⟩
    · rename_i after
      refine List.pairwise_cons.2 ⟨fun r hr => ?_, ih rest hqs⟩
      rcases List.mem_cons.1 ((Sprite.insert_perm p qs).mem_iff.1 hr) with rfl | hr
      · exact Sprite.before_total hq after
      · exact first r hr

theorem Sprite.sort_pairwise {l : List Sprite} (distinct : l.Pairwise (·.index ≠ ·.index)) :
    (Sprite.sort l).Pairwise (Sprite.before · · = true) := by
  induction l with
  | nil => exact .nil
  | cons p ps ih =>
    obtain ⟨hp, hps⟩ := List.pairwise_cons.1 distinct
    exact Sprite.insert_pairwise (ih hps) fun q hq => hp q ((Sprite.sort_perm ps).mem_iff.1 hq)

/-- What is not among the first `n` of a sorted list comes after all of them, and they are `n`. -/
theorem after_take_of_pairwise {α : Type} {r : α → α → Prop} {l : List α} (sorted : l.Pairwise r) {n : Nat} {a : α}
    (mem : a ∈ l) (cut : a ∉ l.take n) : (l.take n).length = n ∧ ∀ b ∈ l.take n, r b a := by
  rw [← List.take_append_drop n l] at sorted mem
  have late : a ∈ l.drop n := (List.mem_append.1 mem).resolve_left cut
  refine ⟨List.length_take_of_le ?_, fun b hb => (List.pairwise_append.1 sorted).2.2 b hb a late⟩
  have := List.length_pos_of_mem late
  rw [List.length_drop] at this
  omega

/-- The entries of the table that are on the scanline. -/
def State.candidates (s : State) : List Sprite := ((List.range 40).map s.sprite).filter s.onScanline

theorem State.mem_candidates {s : State} {p : Sprite} :
    p ∈ s.candidates ↔ ∃ i, i < 40 ∧ s.onScanline (s.sprite i) = true ∧ p = s.sprite i := by
  rw [State.candidates, List.mem_filter, List.mem_map]
  constructor
  · rintro ⟨⟨i, hi, rfl⟩, onLine⟩
    exact ⟨i, List.mem_range.1 hi, onLine, rfl⟩
  · rintro ⟨i, hi, onLine, rfl⟩
    exact ⟨⟨i, List.mem_range.2 hi, rfl⟩, onLine⟩

theorem State.candidates_distinct (s : State) : s.candidates.Pairwise (·.index ≠ ·.index) :=
  .filter _ (List.pairwise_map.2 (List.nodup_range (n := 40)))

theorem State.selectedSprites_on {s : State} (on : s.ppu.lcdc.getLsbD 1 = true) :
    s.selectedSprites = (Sprite.sort s.candidates).take 10 := if_pos on

theorem State.onScanline_iff (s : State) (i : Nat) :
    s.onScanline (s.sprite i) = true ↔
      (s.mem.read .oam (4 * i)).toNat ≤ s.ppu.ly.toNat + 16
        ∧ s.ppu.ly.toNat + 16 < (s.mem.read .oam (4 * i)).toNat + (if s.ppu.lcdc.getLsbD 2 then 16 else 8) :=
  decide_eq_true_iff

/-- Settles O55: the list is the head of the candidates sorted, which are no others and keep their order; what is cut off comes
later. -/
theorem spriteSelection : Obligations.SpriteSelection := by
  intro s list on before
  have sorted := Sprite.sort_pairwise s.candidates_distinct
  simp only [Sprite.before_iff] at sorted
  have perm := Sprite.sort_perm s.candidates
  refine ⟨fun off => if_neg (Bool.eq_false_iff.1 off), fun enabled => ?_⟩
  have selected : list = (Sprite.sort s.candidates).take 10 := State.selectedSprites_on enabled
  rw [selected]
  refine ⟨List.length_take_le _ _, sorted.sublist (List.take_sublist _ _), fun p hp => ?_, fun i hi onLine cut => ?_⟩
  · obtain ⟨i, hi, onLine, rfl⟩ := State.mem_candidates.1 (perm.mem_iff.1 (List.mem_of_mem_take hp))
    exact ⟨i, hi, (s.onScanline_iff i).1 onLine, rfl⟩
  · have candidate := State.mem_candidates.2 ⟨i, hi, (s.onScanline_iff i).2 onLine, rfl⟩
    exact after_take_of_pairwise sorted (perm.mem_iff.2 candidate) cut

/-! ## The device advances (70_reset_and_hazards.md R410, R411) -/

/-- Another timer and serial port beside the PPU, and more requests. -/
def State.beside (s : State) (t : TimerState) (p : SerialState) (m : BitVec 5) : State :=
  State.raise { s with timer := t, serial := p } m

theorem State.beside_beside (s : State) (t t' : TimerState) (p p' : SerialState) (m m' : BitVec 5) :
    (s.beside t p m).beside t' p' m' = s.beside t' p' (m ||| m') :=
  State.raise_raise { s with timer := t', serial := p' } m m'

theorem State.raise_beside (s : State) (t : TimerState) (p : SerialState) (m k : BitVec 5) :
    (s.beside t p m).raise k = (s.raise k).beside t p m := by
  refine (State.raise_raise { s with timer := t, serial := p } m k).trans ?_
  rw [BitVec.or_comm]
  exact (State.raise_raise { s with timer := t, serial := p } k m).symm

section

variable (s : State) (t : TimerState) (p : SerialState) (m : BitVec 5)

theorem State.beside_scanline : (s.beside t p m).scanline = s.scanline := s.unseen_scanline _ _ _ _

theorem State.beside_endOfMode : (s.beside t p m).endOfMode = s.endOfMode.beside t p m := by
  unfold State.endOfMode
  have same : (s.beside t p m).ppu.mode = s.ppu.mode := rfl
  rw [same]
  cases s.ppu.mode with
  | oamSearch => rfl
  | pixelTransfer =>
    dsimp only
    rw [State.endPixelTransfer_eq, State.endPixelTransfer_eq, ← State.raise_beside, State.renderScanline,
      State.beside_scanline]
    rfl
  | horizontalBlank =>
    dsimp only
    rw [State.endHorizontalBlank_eq, State.endHorizontalBlank_eq]
    by_cases last : s.ppu.ly + 1#8 = 144#8
    · rw [if_pos last, ← State.raise_beside]
      exact if_pos last
    · rw [if_neg last, ← State.raise_beside]
      exact if_neg last
  | verticalBlank =>
    dsimp only
    rw [State.endVerticalBlankLine_eq, State.endVerticalBlankLine_eq]
    by_cases last : s.ppu.ly + 1#8 = 154#8
    · rw [if_pos last, ← State.raise_beside]
      exact if_pos last
    · rw [if_neg last, ← State.raise_beside]
      exact if_neg last

theorem State.beside_ppuTick1 : (s.beside t p m).ppuTick1 = s.ppuTick1.beside t p m := by
  cases on : s.ppu.lcdc.getLsbD 7 with
  | false => rw [State.ppuTick1_off on]; exact State.ppuTick1_off on
  | true =>
    rw [State.ppuTick1_on on, State.ppuTick1_on (s := s.beside t p m) on, apply_ite fun u => State.beside u t p m]
    exact if_congr Iff.rfl (s.nextDot.beside_endOfMode t p m) rfl

theorem State.beside_ppuTick (n : Nat) : (s.beside t p m).ppuTick n = (s.ppuTick n).beside t p m := by
  induction n with
  | zero => rfl
  | succ n ih => rw [State.ppuTick, ih, State.beside_ppuTick1, State.ppuTick]

end

/-! ### Timer (60_exceptions.md R316, R317) -/

/-- The increments of `TIMA` that fall due in `n` cycles. -/
def TimerState.due (t : TimerState) (n : Nat) : Nat := if t.tac.getLsbD 2 then (t.timaSub + n) / t.period else 0

/-- The prescaler after `n` cycles. -/
def TimerState.subAfter (t : TimerState) (n : Nat) : Nat :=
  if t.tac.getLsbD 2 then (t.timaSub + n) % t.period else t.timaSub

/-- The timer after `n` cycles. -/
def TimerState.after (t : TimerState) (n : Nat) : TimerState :=
  { t with
    divCounter := t.divCounter + BitVec.ofNat 16 n
    tima := (timaAfter t.tima t.tma (t.due n)).1
    timaSub := t.subAfter n }

/-- The timer's bit of `IF` when `TIMA` overflows. -/
def timerBit (overflow : Bool) : BitVec 5 := if overflow then 0b00100#5 else 0#5

theorem timerBit_or (b c : Bool) : timerBit b ||| timerBit c = timerBit (b || c) := by
  cases b <;> cases c <;> rfl

/-- What `n` cycles of the timer request. -/
def TimerState.raised (t : TimerState) (n : Nat) : BitVec 5 := timerBit (timaAfter t.tima t.tma (t.due n)).2

theorem timaAfter_zero (tima tma : Byte) : timaAfter tima tma 0 = (tima, false) := by
  rw [timaAfter_before tma (Nat.sub_pos_of_lt tima.isLt), BitVec.add_zero]

/-- `k` increments and then `j` are `k + j`. -/
theorem timaAfter_add (tima tma : Byte) (k j : Nat) :
    timaAfter tima tma (k + j) =
      ((timaAfter (timaAfter tima tma k).1 tma j).1,
        (timaAfter tima tma k).2 || (timaAfter (timaAfter tima tma k).1 tma j).2) := by
  induction j with
  | zero => rw [timaAfter_zero, Bool.or_false]; rfl
  | succ j ih =>
    rw [← Nat.add_assoc, timaAfter_succ, ih, timaAfter_succ (timaAfter tima tma k).1]
    split
    · rw [Bool.or_true]
    · rfl

theorem or_timerBit (f : BitVec 5) (overflow : Bool) :
    (if overflow then f ||| 0b00100#5 else f) = f ||| timerBit overflow := by
  cases overflow with
  | true => rfl
  | false => exact (BitVec.or_zero).symm

theorem State.timerTick_eq (s : State) (n : Nat) : s.timerTick n = s.beside (s.timer.after n) s.serial (s.timer.raised n) := by
  by_cases counts : s.timer.tac.getLsbD 2 = true
  · rw [State.timerTick_counting counts, State.timerIncrements_eq, or_timerBit]
    simp only [TimerState.after, TimerState.raised, TimerState.due, TimerState.subAfter, if_pos counts]
    rfl
  · simp only [State.timerTick_frozen counts, TimerState.after, TimerState.raised, TimerState.due, TimerState.subAfter,
      if_neg counts, timaAfter_zero]
    exact (State.raise_zero _).symm

/-- The increments due in `a` cycles and then in `b` are those due in `a + b`: what the prescaler keeps counts on. -/
theorem TimerState.due_add (t : TimerState) (a b : Nat) : t.due (a + b) = t.due a + (t.after a).due b := by
  show (if _ then _ else _) = (if _ then _ else _) + if t.tac.getLsbD 2 then (t.subAfter a + b) / t.period else 0
  unfold TimerState.subAfter
  split
  · rw [← Nat.mul_add_div t.period_pos, ← Nat.add_assoc, ← Nat.add_assoc, Nat.div_add_mod]
  · rfl

theorem TimerState.subAfter_add (t : TimerState) (a b : Nat) : t.subAfter (a + b) = (t.after a).subAfter b := by
  show (if _ then _ else _) = if t.tac.getLsbD 2 then (t.subAfter a + b) % t.period else t.subAfter a
  unfold TimerState.subAfter
  split
  · rw [Nat.mod_add_mod, Nat.add_assoc]
  · rfl

theorem TimerState.after_add (t : TimerState) (a b : Nat) : t.after (a + b) = (t.after a).after b := by
  rw [TimerState.after, t.due_add, t.subAfter_add, timaAfter_add, BitVec.ofNat_add, ← BitVec.add_assoc]
  rfl

theorem TimerState.raised_add (t : TimerState) (a b : Nat) : t.raised (a + b) = t.raised a ||| (t.after a).raised b := by
  rw [TimerState.raised, t.due_add, timaAfter_add, ← timerBit_or]
  rfl

theorem State.timerTick_add (s : State) (a b : Nat) : s.timerTick (a + b) = (s.timerTick a).timerTick b := by
  rw [State.timerTick_eq, State.timerTick_eq (s.timerTick a), s.timerTick_eq a, State.beside_beside, s.timer.after_add,
    s.timer.raised_add]
  rfl

/-! ### Serial port (60_exceptions.md R321) -/

/-- A transfer runs and completes within `n` cycles. -/
def SerialState.Completes (p : SerialState) (n : Nat) : Prop := 0 < p.serialCount ∧ p.serialCount ≤ n

/-- The serial port after a transfer. -/
def SerialState.completed (p : SerialState) : SerialState := { p with serialCount := 0, sb := 0xFF#8, scStart := false }

/-- The port and its request when a transfer completes. -/
theorem State.serialTick_completes {s : State} {n : Nat} (h : s.serial.Completes n) :
    s.serialTick n = s.beside s.timer s.serial.completed 0b01000#5 :=
  State.serialTick_complete h.1 h.2

/-- A transfer that goes on, or none. -/
theorem State.serialTick_more {s : State} {n : Nat} (h : ¬ s.serial.Completes n) :
    s.serialTick n = s.beside s.timer { s.serial with serialCount := s.serial.serialCount - n } 0#5 := by
  refine Eq.trans ?_ (State.raise_zero _).symm
  rcases Nat.eq_zero_or_pos s.serial.serialCount with idle | running
  · rw [State.serialTick_idle idle, idle, Nat.zero_sub, ← idle]
  · exact State.serialTick_running running (Nat.lt_of_not_le fun last => h ⟨running, last⟩)

theorem State.serialTick_add (s : State) (a b : Nat) : s.serialTick (a + b) = (s.serialTick a).serialTick b := by
  by_cases first : s.serial.Completes a
  · have whole : s.serial.Completes (a + b) := ⟨first.1, Nat.le_add_right_of_le first.2⟩
    rw [State.serialTick_completes whole, State.serialTick_completes first]
    exact (State.serialTick_idle rfl b).symm
  rw [State.serialTick_more first]
  generalize rest : s.beside s.timer { s.serial with serialCount := s.serial.serialCount - a } 0#5 = u
  have count : u.serial.serialCount = s.serial.serialCount - a := by rw [← rest]; rfl
  have iff : u.serial.Completes b ↔ s.serial.Completes (a + b) := by
    unfold SerialState.Completes at first ⊢
    omega
  by_cases second : u.serial.Completes b
  · rw [State.serialTick_completes second, State.serialTick_completes (iff.1 second), ← rest, State.beside_beside]
    rfl
  · rw [State.serialTick_more second, State.serialTick_more fun whole => second (iff.2 whole), ← rest,
      State.beside_beside, Nat.sub_add_eq]
    rfl

/-- The serial port's advance, by the port alone: what it becomes and what it requests. -/
theorem State.serialTick_beside (n : Nat) (p : SerialState) :
    ∃ (q : SerialState) (m : BitVec 5), ∀ s : State, s.serial = p → s.serialTick n = s.beside s.timer q m := by
  by_cases h : p.Completes n
  · exact ⟨_, _, fun s e => e ▸ State.serialTick_completes (e ▸ h)⟩
  · exact ⟨_, _, fun s e => e ▸ State.serialTick_more (e ▸ h)⟩

/-! ### The three devices -/

theorem State.ppuTick_add (s : State) (a b : Nat) : s.ppuTick (a + b) = (s.ppuTick a).ppuTick b := by
  induction b with
  | zero => rfl
  | succ b ih => rw [← Nat.add_assoc, State.ppuTick, ih, State.ppuTick]

theorem State.ppuTick_timer_serial (s : State) (n : Nat) :
    (s.ppuTick n).timer = s.timer ∧ (s.ppuTick n).serial = s.serial := by
  obtain ⟨_, _, _, _, _, _, e⟩ := s.ppuTick_move n
  rw [e]
  exact ⟨rfl, rfl⟩

theorem State.timerTick_ppuTick (s : State) (a b : Nat) : (s.timerTick a).ppuTick b = (s.ppuTick b).timerTick a := by
  obtain ⟨timer, serial⟩ := s.ppuTick_timer_serial b
  rw [State.timerTick_eq, State.timerTick_eq, timer, serial, State.beside_ppuTick]

theorem State.ppuTick_serialTick (s : State) (a b : Nat) : (s.ppuTick a).serialTick b = (s.serialTick b).ppuTick a := by
  obtain ⟨timer, serial⟩ := s.ppuTick_timer_serial a
  obtain ⟨q, m, tick⟩ := State.serialTick_beside b s.serial
  rw [tick s rfl, tick _ serial, timer, State.beside_ppuTick]

theorem State.timerTick_serialTick (s : State) (a b : Nat) :
    (s.timerTick a).serialTick b = (s.serialTick b).timerTick a := by
  obtain ⟨q, m, tick⟩ := State.serialTick_beside b s.serial
  rw [State.timerTick_eq, State.timerTick_eq, tick s rfl, tick (s.beside _ s.serial _) rfl, State.beside_beside,
    State.beside_beside, BitVec.or_comm]
  rfl

/-- Settles O48: timer and serial port advance by themselves and only add requests, and the PPU is indifferent to what changes
beside it. -/
theorem deviceAdvancesComposeAndCommute : Obligations.DeviceAdvancesComposeAndCommute := fun s a b =>
  ⟨(s.timerTick_add a b).symm, (s.ppuTick_add a b).symm, (s.serialTick_add a b).symm, s.timerTick_ppuTick a b,
    s.timerTick_serialTick a b, s.ppuTick_serialTick a b⟩

end Sys2Proof.Machine
end

section
/-! Proofs of the family 70_reset_and_hazards.md: the two reset profiles, and the invariant at reset and over the host moves. -/

namespace Sys2Proof.Machine

/-! ## The reset profiles (R400, R402) -/

theorem Framebuffer.blank_getElem {y x : Nat} (hy : y < 144) (hx : x < 160) : (Framebuffer.blank[y])[x] = 0#2 := by
  simp only [Framebuffer.blank, Vector.getElem_replicate]

theorem State.powerOn_fb (p : Params) (rom boot : Memory) (epoch : Nat) :
    (State.powerOn p rom boot epoch).ppu.fb = Framebuffer.blank := by
  unfold State.powerOn
  cases p.bootPresent <;> rfl

theorem CpuState.direct_registers :
    (direct.a, direct.f, direct.b, direct.c, direct.d, direct.e, direct.h, direct.l)
      = (0x01#8, 0xB0#8, 0x00#8, 0x13#8, 0x00#8, 0xD8#8, 0x01#8, 0x4D#8) := by decide

theorem CpuState.boot_registers :
    (boot.a, boot.f, boot.b, boot.c, boot.d, boot.e, boot.h, boot.l)
      = (0x00#8, 0x00#8, 0x00#8, 0x00#8, 0x00#8, 0x00#8, 0x00#8, 0x00#8) := by decide

/-- Settles O56: each profile is read off, with and without a bootstrap program. -/
theorem resetProfiles : Obligations.ResetProfiles := by
  refine ⟨fun p rom boot epoch => ?_, fun s => ⟨s.mem.epoch + 1, rfl⟩, Params.plain, rfl⟩
  have pixels (y x : Nat) (hy : y < 144) (hx : x < 160) : ((State.powerOn p rom boot epoch).ppu.fb[y])[x] = 0#2 := by
    simp only [State.powerOn_fb, Framebuffer.blank_getElem hy hx]
  have released (k : Button) : (State.powerOn p rom boot epoch).joypad.buttons.get k = false := by cases k <;> rfl
  obtain ⟨cart, romSize, present⟩ := p
  cases present with
  | false =>
    exact ⟨CpuState.direct_registers, rfl, rfl, rfl, rfl, rfl, rfl, released, rfl, rfl, rfl, rfl, rfl, rfl, pixels, rfl,
      rfl, rfl, rfl, rfl, rfl, rfl, rfl⟩
  | true =>
    exact ⟨CpuState.boot_registers, rfl, rfl, rfl, rfl, rfl, rfl, released, rfl, rfl, rfl, rfl, rfl, rfl, pixels, rfl,
      rfl, rfl, rfl, rfl, rfl, rfl, rfl⟩

/-! ## The invariant at reset (R400, 10_state.md R31) -/

/-- An image in canonical form whose listed bytes exist. -/
structure ImageOk (p : Params) (r : Region) (m : Memory) : Prop where
  wf : m.wf r = true
  within : m.within (p.sizeOf r) = true

theorem ImageOk.nil (p : Params) (r : Region) : ImageOk p r [] := ⟨rfl, rfl⟩

theorem State.Inv.imageOk {s : State} (h : s.Inv) (r : Region) : ImageOk s.params r (s.mem.array r) :=
  ⟨(s.mem.wf_iff.1 h.memWf) r, (s.mem.within_iff s.params).1 h.memWithin r⟩

/-- Both profiles meet the invariant, for any images that fit the parameters: no byte of RAM is listed. -/
theorem State.powerOn_inv {p : Params} {rom boot : Memory} (hrom : ImageOk p .rom rom) (hboot : ImageOk p .boot boot)
    (epoch : Nat) : (State.powerOn p rom boot epoch).Inv where
  memWf := (Memories.wf_iff _).2 fun r => by
    cases r with
    | rom => exact hrom.wf
    | boot => exact hboot.wf
    | _ => rfl
  memWithin := (Memories.within_iff _ _).2 fun r => by
    cases r with
    | rom => exact hrom.within
    | boot => exact hboot.within
    | _ => rfl
  timer := ⟨(by decide : 0 < 1024), fun counts => absurd counts (show ¬ (0#3).getLsbD 2 = true by decide)⟩
  serial := Nat.zero_le _
  ppu := by
    unfold State.powerOn
    cases p.bootPresent
    · exact PpuState.ok_lineZero rfl rfl nofun fun off => absurd off (show ¬ (0x91#8).getLsbD 7 = false by decide)
    · exact PpuState.ok_lineZero rfl rfl nofun fun _ => rfl
  cart := by
    obtain ⟨cart, romSize, present⟩ := p
    cases cart with
    | noMbc => rfl
    | mbc1 ram => exact (by decide : (1#7).extractLsb' 0 5 ≠ 0#5)
  overlay := id

/-- Settles O58: the direct profile with empty images. -/
theorem resetMeetsInvariant : Obligations.ResetMeetsInvariant := State.powerOn_inv (.nil _ _) (.nil _ _) 0

/-! ## Host moves (R412) -/

/-- A button moves the joypad, the stopped state and one request, none of which the invariant speaks of (60_exceptions.md
R322, R323). -/
theorem State.setButton_inv {s : State} (h : s.Inv) (key : Button) (pressed : Bool) : (s.setButton key pressed).Inv := by
  unfold State.setButton
  dsimp only
  split
  · exact ⟨h.memWf, h.memWithin, h.timer, h.serial, h.ppu, h.cart, h.overlay⟩
  · exact ⟨h.memWf, h.memWithin, h.timer, h.serial, h.ppu, h.cart, h.overlay⟩

/-- Settles O59: a reset keeps the images, which fit the parameters; a button leaves what the invariant speaks of; a snapshot
changes nothing. -/
theorem hostMovesKeepInvariant : Obligations.HostMovesKeepInvariant := by
  intro s m h
  cases m with
  | reset => exact State.powerOn_inv (h.imageOk .rom) (h.imageOk .boot) _
  | setButton key pressed => exact State.setButton_inv h key pressed
  | snapshot => exact h

end Sys2Proof.Machine
end

section
/-! More proofs of the family 40_loads.md: a stack in plain memory gives back what was pushed. -/

namespace Sys2Proof.Machine

/-! ## A stack in plain memory (40_loads.md R152, R153; 44_control.md R246, R248) -/

/-- The sizes of cartridge RAM are even, so banking keeps an address odd or even. -/
theorem State.ramIndex_parity {s : State} {n i : Nat} (lo : 0xA000 ≤ n) (index : s.ramIndex n = some i) :
    i % 2 = n % 2 := by
  cases kind : s.params.cart with
  | noMbc => exact absurd ((State.ramIndex_noMbc kind).symm.trans index) nofun
  | mbc1 ram =>
    rw [State.ramIndex_mbc1 kind] at index
    split at index
    · cases index
    · have even : 2 ∣ ram.bytes := by cases ram <;> decide
      obtain rfl := Option.some.inj index
      rw [Nat.mod_mod_of_dvd _ even]
      omega

/-- Every array of RAM begins at an even address, so a cell and its address are odd or even together. -/
theorem State.place_parity {s : State} {a : Word} (high : 0x7FFF < a.toNat) {r : Region} {off : Nat}
    (owner : s.place a = .cell r off) : off % 2 = a.toNat % 2 := by
  by_cases window : 0xA000 ≤ a.toNat ∧ a.toNat ≤ 0xBFFF
  · cases index : s.ramIndex a.toNat with
    | none => exact absurd ((s.place_noRam window.1 window.2 index).symm.trans owner) nofun
    | some i =>
      obtain ⟨-, rfl⟩ := Place.cell.inj ((s.place_eram window.1 window.2 index).symm.trans owner)
      exact State.ramIndex_parity window.1 index
  · simp only [State.place] at owner
    repeat' split at owner
    all_goals simp only [Place.cell.injEq, reduceCtorEq] at owner
    all_goals
      obtain ⟨-, rfl⟩ := owner
      omega

/-- Neighbours are different cells. -/
theorem State.place_neighbour {s : State} {a : Word} {r : Region} {off : Nat} (high : 0x7FFF < (a - 2#16).toNat)
    (owner : s.place (a - 2#16) = .cell r off) (high' : 0x7FFF < (a - 1#16).toNat) : s.place (a - 1#16) ≠ .cell r off := by
  intro same
  have even := State.place_parity high owner
  have odd := State.place_parity high' same
  bv_omega

/-- A word pushed onto plain memory is on top of the stack. -/
theorem Pushed.top {v : Word} {s t : State} (h : Pushed v s t) (high : s.plainAt (s.cpu.sp - 1#16))
    (low : s.plainAt (s.cpu.sp - 2#16)) :
    t.cpu.sp + 2#16 = s.cpu.sp ∧ t.read (t.cpu.sp + 1#16) ++ t.read t.cpu.sp = v := by
  obtain ⟨m, first, second⟩ := h.stores
  obtain ⟨high₁, gate₁, r₁, off₁, owner₁⟩ := high
  obtain ⟨high₂, gate₂, r₂, off₂, owner₂⟩ := low
  obtain ⟨-, stored₁, -, -, devices⟩ := first.cell r₁ off₁ high₁ gate₁ owner₁
  have place (a : Word) : m.place a = s.place a := State.place_congr devices.params devices.bootOverlay devices.cart a
  obtain ⟨-, stored₂, -, others, -⟩ :=
    second.cell r₂ off₂ high₂ ((State.denied_congr devices.ppu _).trans gate₂) ((place _).trans owner₂)
  have kept := others (s.cpu.sp - 1#16) (place _ ▸ State.place_neighbour high₂ owner₂ high₁)
  have up : s.cpu.sp - 2#16 + 1#16 = s.cpu.sp - 1#16 := by bv_omega
  rw [h.sp, up, kept, stored₁, stored₂, word_of_halves]
  exact ⟨BitVec.sub_add_cancel _ _, rfl⟩

theorem Flags.ofByte_toByte (f : Flags) : Flags.ofByte f.toByte = f := by
  obtain ⟨z, n, h, c⟩ := f
  cases z <;> cases n <;> cases h <;> cases c <;> rfl

/-- A pair takes back what it held, `AF` too: it held zeros in bits 3:0 of `F`. -/
theorem CpuState.setStackPair_same (u c : CpuState) (p : StackPair) :
    (u.setStackPair p (c.stackPair p)).stackPair p = c.stackPair p := by
  by_cases plain : p = .af
  · subst plain
    have af : c.stackPair .af = c.a ++ c.flags.toByte := rfl
    rw [af, CpuState.setStackPair_af, Flags.ofByte_toByte]
    rfl
  · exact (CpuState.setStackPair_stackPair u _ plain).1

/-- Settles O17: a push leaves its word on top, where a pop into the pair or the return of a call takes it from. -/
theorem stackGivesBackWhatWasPushed : Obligations.StackGivesBackWhatWasPushed := by
  intro s high low
  refine ⟨fun p q => ?pushPop, fun nn => ?callReturn⟩
  case pushPop =>
    obtain ⟨t, push, -, pushed⟩ := exec_of_run (f := .push p) (pushPair_pushes p s)
    obtain ⟨u, pop, -, cpu⟩ := exec_of_run (f := .pop q) (popPair_eq q t)
    obtain ⟨sp, top⟩ := pushed.top high low
    rw [top] at cpu
    refine ⟨t, u, push, pop, ?_, fun plain => ?_, fun same => ?_⟩
    · rw [cpu, CpuState.setStackPair_sp]
      exact sp
    · rw [cpu]
      exact (CpuState.setStackPair_stackPair _ _ plain).1
    · rw [cpu, same, CpuState.setStackPair_same]
  case callReturn =>
    obtain ⟨⟨-, t, call, -, -, pushed⟩, -⟩ := calls .nz .o0 nn s
    obtain ⟨⟨-, u, ret, ⟨pc, sp', regs, flags, -⟩, -⟩, -⟩ := returns .nz t
    obtain ⟨sp, top⟩ := pushed.top high low
    exact ⟨t, u, call, ret, pc.trans top, sp'.trans sp, fun r other => (regs r other).trans (pushed.regs r other),
      flags.trans pushed.flags⟩

end Sys2Proof.Machine
end

section
/-! More proofs of the family 41_alu8.md: an addition or a subtraction, then `DAA`, is decimal arithmetic. -/

namespace Sys2Proof.Machine

/-! ## Decimal arithmetic (41_alu8.md R171, R173, R183) -/

/-- The byte is packed from two decimal digits. -/
structure Packed (v : Byte) (tens units : Nat) : Prop where
  value : v.toNat = 16 * tens + units
  tens : tens ≤ 9
  units : units ≤ 9

theorem isDecimal.packed {v : Byte} (h : isDecimal v) : ∃ tens units, Packed v tens units :=
  ⟨v.toNat / 16, v.toNat % 16, (Nat.div_add_mod _ _).symm, h.1, h.2⟩

theorem Packed.isDecimal {v : Byte} {t u : Nat} (h : Packed v t u) : isDecimal v ∧ decimal v = 10 * t + u := by
  obtain ⟨value, tens, units⟩ := h
  unfold Machine.isDecimal decimal
  omega

theorem decimal_lt {v : Byte} (h : isDecimal v) : decimal v < 100 := by
  obtain ⟨tens, units, packed⟩ := h.packed
  have := packed.tens
  have := packed.units
  rw [packed.isDecimal.2]
  omega

theorem decimal_eq_zero_iff (v : Byte) : v = 0#8 ↔ decimal v = 0 := by
  rw [← BitVec.toNat_inj, BitVec.toNat_ofNat, decimal]
  omega

/-- What a digit gives to the next one, or takes from it. -/
def carry (p : Prop) [Decidable p] : Nat := if p then 1 else 0

theorem carry_cases (p : Prop) [Decidable p] : p ∧ carry p = 1 ∨ ¬ p ∧ carry p = 0 := by
  by_cases h : p
  · exact .inl ⟨h, if_pos h⟩
  · exact .inr ⟨h, if_neg h⟩

theorem daaAdjustment_eq (p q : Prop) [Decidable p] [Decidable q] :
    daaAdjustment (decide p) (decide q) = 6 * carry p + 96 * carry q := by
  unfold daaAdjustment carry
  by_cases hp : p <;> by_cases hq : q <;> simp [hp, hq]

section

variable {x y : Byte} {a b c d : Nat} (hx : Packed x a b) (hy : Packed y c d)

include hx hy

/-- After `ADD` the half-carry or a low digit past 9 says that the units carry, and the carry or a byte past 0x99 that the
tens do; the adjustment leaves the digits of the sum. -/
theorem daa8_add8_packed :
    let r := daa8 (add8 x y false).val (add8 x y false).flags
    let k := carry (9 < b + d)
    Packed r.val ((a + c + k) % 10) ((b + d) % 10) ∧ r.flags.c = decide (9 < a + c + k) := by
  obtain ⟨vx, tx, ux⟩ := hx
  obtain ⟨vy, ty, uy⟩ := hy
  intro r k
  have units := carry_cases (9 < b + d)
  have tens := carry_cases (9 < a + c + k)
  have sum : add8 x y false = _ := add8_eq x y false
  have low : ((add8 x y false).flags.h || decide ((add8 x y false).val.toNat % 16 > 0x9)) = decide (9 < b + d) := by
    rw [sum, vx, vy]
    simp only [bit, BitVec.toNat_ofNat, ← Bool.decide_or, decide_eq_decide, Bool.false_eq_true, if_false]
    omega
  have high : ((add8 x y false).flags.c || decide ((add8 x y false).val.toNat > 0x99)) = decide (9 < a + c + k) := by
    rw [sum, vx, vy]
    simp only [bit, BitVec.toNat_ofNat, ← Bool.decide_or, decide_eq_decide, Bool.false_eq_true, if_false]
    omega
  have adjusted : r = _ := daa8_afterAddition _ rfl
  dsimp only at adjusted
  rw [low, high, daaAdjustment_eq] at adjusted
  rw [adjusted]
  refine ⟨⟨?_, by omega, by omega⟩, rfl⟩
  simp only [sum, vx, vy, bit, BitVec.toNat_ofNat, Bool.false_eq_true, if_false]
  omega

theorem daa8_sub8_packed :
    let r := daa8 (sub8 x y false).val (sub8 x y false).flags
    let k := carry (b < d)
    Packed r.val ((10 + a - c - k) % 10) ((10 + b - d) % 10) ∧ r.flags.c = decide (a < c + k) := by
  obtain ⟨vx, tx, ux⟩ := hx
  obtain ⟨vy, ty, uy⟩ := hy
  intro r k
  have units := carry_cases (b < d)
  have tens := carry_cases (a < c + k)
  have difference : sub8 x y false = _ := sub8_noBorrow x y
  have low : (sub8 x y false).flags.h = decide (b < d) := by
    rw [difference, vx, vy]
    simp only [decide_eq_decide]
    omega
  have high : (sub8 x y false).flags.c = decide (a < c + k) := by
    rw [difference, vx, vy]
    simp only [decide_eq_decide]
    omega
  have adjusted : r = _ := daa8_afterSubtraction _ rfl
  rw [low, high, daaAdjustment_eq] at adjusted
  rw [adjusted]
  refine ⟨⟨?_, by omega, by omega⟩, rfl⟩
  simp only [difference, vx, vy, BitVec.toNat_ofInt]
  omega

end

/-- `DAA` after `ADD`: the sum modulo 100 and the decimal carry. -/
theorem daa8_add8_decimal {x y : Byte} (hx : isDecimal x) (hy : isDecimal y) :
    let r := daa8 (add8 x y false).val (add8 x y false).flags
    isDecimal r.val ∧ decimal r.val = (decimal x + decimal y) % 100 ∧ r.flags.c = decide (decimal x + decimal y > 99) := by
  obtain ⟨a, b, left⟩ := hx.packed
  obtain ⟨c, d, right⟩ := hy.packed
  obtain ⟨packed, carried⟩ := daa8_add8_packed left right
  have units := carry_cases (9 < b + d)
  have bounds := And.intro left.tens (And.intro left.units (And.intro right.tens right.units))
  obtain ⟨result, value⟩ := packed.isDecimal
  refine ⟨result, value.trans ?_, carried.trans (decide_eq_decide.2 ?_)⟩
  all_goals
    rw [left.isDecimal.2, right.isDecimal.2]
    omega

/-- `DAA` after `SUB`: the difference modulo 100 and the decimal borrow. -/
theorem daa8_sub8_decimal {x y : Byte} (hx : isDecimal x) (hy : isDecimal y) :
    let r := daa8 (sub8 x y false).val (sub8 x y false).flags
    isDecimal r.val ∧ (decimal r.val : Int) = ((decimal x : Int) - decimal y) % 100
      ∧ r.flags.c = decide (decimal x < decimal y) := by
  obtain ⟨a, b, left⟩ := hx.packed
  obtain ⟨c, d, right⟩ := hy.packed
  obtain ⟨packed, borrowed⟩ := daa8_sub8_packed left right
  have units := carry_cases (b < d)
  have bounds := And.intro left.tens (And.intro left.units (And.intro right.tens right.units))
  obtain ⟨result, value⟩ := packed.isDecimal
  refine ⟨result, (congrArg Nat.cast value).trans ?_, borrowed.trans (decide_eq_decide.2 ?_)⟩
  all_goals
    rw [left.isDecimal.2, right.isDecimal.2]
    omega

/-- The zero flag of `DAA` is that of its result. -/
theorem daa8_z (a : Byte) (f : Flags) : (daa8 a f).flags.z = decide (decimal (daa8 a f).val = 0) := by
  have zero : (daa8 a f).flags.z = ((daa8 a f).val == 0#8) := by
    unfold daa8
    split <;> rfl
  rw [zero, beq_eq_decide, decide_eq_decide.2 (decimal_eq_zero_iff _)]

/-- An arithmetic instruction with an immediate byte, then `DAA`: the result of the one goes through the other. -/
theorem alu_then_daa (op : AluOp) (n : Byte) (s : State) {r : Result8} (result : alu8 op s.cpu.a n s.cpu.flags = r) :
    ∃ t u, exec (.alu op (.imm n)) s = .next t ∧ exec .daa t = .next u
      ∧ u.cpu.a = (daa8 r.val r.flags).val ∧ u.cpu.flags.c = (daa8 r.val r.flags).flags.c
      ∧ u.cpu.flags.z = decide (decimal u.cpu.a = 0) := by
  obtain ⟨-, t, first, sets⟩ := alu_setsA op (.imm n) s result
  obtain ⟨u, second, adjusted⟩ : ∃ u, exec .daa t = .next u
      ∧ SetsA (daa8 t.cpu.a t.cpu.flags).val (daa8 t.cpu.a t.cpu.flags).flags 1 4 t u := adjustA_setsA rfl
  rw [sets.value, sets.flags] at adjusted
  refine ⟨t, u, first, second, adjusted.value, congrArg Flags.c adjusted.flags, ?_⟩
  rw [adjusted.flags, adjusted.value, daa8_z]

/-- Settles O24: `DAA` turns the binary result of either instruction into the digits of the decimal one. -/
theorem decimalAdjustIsDecimalArithmetic : Obligations.DecimalAdjustIsDecimalArithmetic := by
  intro n s ha hn
  refine ⟨?sum, ?difference⟩
  case sum =>
    obtain ⟨t, u, add, daa, a, c, z⟩ := alu_then_daa .add n s (r := add8 s.cpu.a n false) rfl
    obtain ⟨digits, value, carried⟩ := daa8_add8_decimal ha hn
    rw [← a] at digits value
    exact ⟨t, u, add, daa, digits, value, c.trans carried, value ▸ z⟩
  case difference =>
    obtain ⟨t, u, sub, daa, a, c, z⟩ := alu_then_daa .sub n s (r := sub8 s.cpu.a n false) rfl
    obtain ⟨digits, value, borrowed⟩ := daa8_sub8_decimal ha hn
    rw [← a] at digits value
    have zero : decimal u.cpu.a = 0 ↔ decimal s.cpu.a = decimal n := by
      have := decimal_lt ha
      have := decimal_lt hn
      omega
    exact ⟨t, u, sub, daa, digits, value, c.trans borrowed, z.trans (decide_eq_decide.2 zero)⟩

end Sys2Proof.Machine
end
